-- ==== Sys2Proof/Word.lean ====
section
/-! DEFINITION. Word.lean: the widths that the wire layouts of chapter "Wire formats" use. Positions, counts and
serials are plain numbers (R7) and are not bit vectors. -/

namespace Sys2Proof

/-- One byte of a line's traffic (R190). -/
abbrev Byte := BitVec 8

/-- A 2-byte tag: the host's tag of a control frame (R175), or the part's tag of an order (R145). -/
abbrev Tag := BitVec 16

/-- A 4-byte field as it stands in a recorder message (R197). -/
abbrev Word32 := BitVec 32

end Sys2Proof
end

