-- ==== Sys2Proof/Syntax.lean ====
section
/-! DEFINITION. Syntax.lean: the commands that reach the part, one constructor for each row of
spec/opcode_table.json, with the operands that the row's rule gives it. -/

namespace Sys2Proof

/-- The four booth controllers and the four booth lines, numbered 1 to 4 (section 0.2). -/
inductive BoothId where
  | bc1 | bc2 | bc3 | bc4
  deriving DecidableEq, Repr

/-- The reasons a REFUSED answer carries (R144). -/
inductive RefusedReason where
  | badTrack | trackBusy | tooLate | notReady
  deriving DecidableEq, Repr

/-- The recorder's flow words (R144, R152). -/
inductive Flow where
  | ready | hold
  deriving DecidableEq, Repr

/-- A message that the recorder sends, once read (R144, R197). -/
inductive RecMessage where
  | done (tag : Tag) (actual : Word32)
  | refused (tag : Tag) (reason : RefusedReason)
  | flow (value : Flow)
  deriving DecidableEq, Repr

/-- The motions of a position word (R17). -/
inductive Motion where
  | play | park | wind
  deriving DecidableEq, Repr

/-- A position word as it is read, before the checks of rate and label (R17, R196). -/
structure RawWord where
  hours : Nat
  minutes : Nat
  seconds : Nat
  frames : Nat
  rateCode : Nat
  motion : Motion
  deriving DecidableEq, Repr

/-- A command to the part: a row of spec/opcode_table.json.
A request row holds the tag and the body of the well-framed control frame that carries it (R175, R177). -/
inductive Instr where
  /-- Power is applied (R186). -/
  | powerOn
  /-- A word arrives on the position line, as its bytes (R17, R196). -/
  | positionWord (bytes : List Byte)
  /-- The absence timer expires (R20). -/
  | absenceTimerExpiry
  /-- The freewheel timer expires (R28). -/
  | freewheelTimerExpiry
  /-- The NO_SIGNAL timer of one booth line expires (R170). -/
  | noSignalTimerExpiry (line : BoothId)
  /-- The transmission of a booth frame ends on one line (R169). -/
  | boothFrameSent (line : BoothId)
  /-- Bytes arrive on the control link and a candidate frame among them is discarded (R176). -/
  | frameFault (bytes : List Byte)
  /-- The gap timer of the receiver expires (R176). -/
  | gapTimerExpiry
  /-- A well-framed frame arrives while a request is in hand (R177). -/
  | busy (kind : Byte) (tag : Tag) (body : List Byte)
  /-- A well-framed frame arrives while the intake is RESTARTING (R187). -/
  | restartingDiscard (kind : Byte) (tag : Tag) (body : List Byte)
  /-- A well-framed frame whose kind is not a request kind (R178). -/
  | unknownKind (kind : Byte) (tag : Tag) (body : List Byte)
  /-- REEL-DEFINE (R12). -/
  | reelDefine (tag : Tag) (body : List Byte)
  /-- REEL-DROP (R13). -/
  | reelDrop (tag : Tag) (body : List Byte)
  /-- REEL-LIST (R15). -/
  | reelList (tag : Tag) (body : List Byte)
  /-- STAGE-SET (R34, R36). -/
  | stageSet (tag : Tag) (body : List Byte)
  /-- STAGE-GET (R37). -/
  | stageGet (tag : Tag) (body : List Byte)
  /-- CUE-PUT (R43). -/
  | cuePut (tag : Tag) (body : List Byte)
  /-- CUE-AMEND (R46, R47). -/
  | cueAmend (tag : Tag) (body : List Byte)
  /-- CUE-DROP (R49). -/
  | cueDrop (tag : Tag) (body : List Byte)
  /-- CUE-GET (R50). -/
  | cueGet (tag : Tag) (body : List Byte)
  /-- CUE-LIST (R51). -/
  | cueList (tag : Tag) (body : List Byte)
  /-- PASS-BUILD with the range form (R62, R63). -/
  | passBuildRange (tag : Tag) (body : List Byte)
  /-- PASS-BUILD with the list form (R62, R64). -/
  | passBuildList (tag : Tag) (body : List Byte)
  /-- PASS-GET (R67). -/
  | passGet (tag : Tag) (body : List Byte)
  /-- PASS-CUTOVER (R73). -/
  | passCutover (tag : Tag) (body : List Byte)
  /-- PASS-DISCARD (R74). -/
  | passDiscard (tag : Tag) (body : List Byte)
  /-- PASS-STOP (R79). -/
  | passStop (tag : Tag) (body : List Byte)
  /-- PASS-ABORT (R81). -/
  | passAbort (tag : Tag) (body : List Byte)
  /-- PASS-CLEAR (R82). -/
  | passClear (tag : Tag) (body : List Byte)
  /-- BOOTH-HOLD (R83). -/
  | boothHold (tag : Tag) (body : List Byte)
  /-- BOOTH-RELEASE (R84). -/
  | boothRelease (tag : Tag) (body : List Byte)
  /-- TRACK-GET (R125). -/
  | trackGet (tag : Tag) (body : List Byte)
  /-- TAKE-MARK with operation SET (R134). -/
  | takeMarkSet (tag : Tag) (body : List Byte)
  /-- TAKE-MARK with operation CLEAR (R134). -/
  | takeMarkClear (tag : Tag) (body : List Byte)
  /-- TAKE-MARK with operation INVERT (R134). -/
  | takeMarkInvert (tag : Tag) (body : List Byte)
  /-- TAKE-DROP (R135). -/
  | takeDrop (tag : Tag) (body : List Byte)
  /-- LOG-SEEK with target OLDEST (R137). -/
  | logSeekOldest (tag : Tag) (body : List Byte)
  /-- LOG-SEEK with target NEWEST (R137). -/
  | logSeekNewest (tag : Tag) (body : List Byte)
  /-- LOG-SEEK with a serial (R137). -/
  | logSeekSerial (tag : Tag) (body : List Byte)
  /-- LOG-READ (R138). -/
  | logRead (tag : Tag) (body : List Byte)
  /-- BOOTH-SET (R166). -/
  | boothSet (tag : Tag) (body : List Byte)
  /-- BOOTH-FILTER with operation SET (R167). -/
  | boothFilterSet (tag : Tag) (body : List Byte)
  /-- BOOTH-FILTER with operation CLEAR (R167). -/
  | boothFilterClear (tag : Tag) (body : List Byte)
  /-- BOOTH-FILTER with operation INVERT (R167). -/
  | boothFilterInvert (tag : Tag) (body : List Byte)
  /-- BOOTH-GET (R168). -/
  | boothGet (tag : Tag) (body : List Byte)
  /-- LINE-GET (R169). -/
  | lineGet (tag : Tag) (body : List Byte)
  /-- NOTICE-SET (R183). -/
  | noticeSet (tag : Tag) (body : List Byte)
  /-- STATUS (R184). -/
  | status (tag : Tag) (body : List Byte)
  /-- IDENT (R185). -/
  | ident (tag : Tag) (body : List Byte)
  /-- RESTART (R187). -/
  | restart (tag : Tag) (body : List Byte)
  /-- The transmission of a control frame ends (R179). -/
  | outboundFrameSent
  /-- A DONE answer arrives from the recorder (R156). -/
  | done (tag : Tag) (actual : Word32)
  /-- A REFUSED answer arrives from the recorder (R157). -/
  | refused (tag : Tag) (reason : RefusedReason)
  /-- A FLOW word arrives from the recorder (R152). -/
  | flow (value : Flow)
  /-- A recorder message that cannot be read arrives, as its bytes (R158, R197). -/
  | unreadableMessage (bytes : List Byte)
  /-- The link begins to send its first eligible order (R151). -/
  | beginSend
  /-- The transmission of an order ends (R151). -/
  | orderTransmissionEnd
  /-- The expiry timer of a running awaiting entry expires (R155). -/
  | awaitingExpiry (tag : Tag)
  deriving DecidableEq, Repr

end Sys2Proof
end

