-- ==== Sys2Proof/Decode.lean ====
section
/-! DEFINITION. Decode.lean: reading the words that arrive (R190, R191, R196, R197), the row that a well-framed
control frame belongs to, and the host's fixed decoder. The table gives no row any bits, so that decoder reads no
word. -/

namespace Sys2Proof

/-- The value of bytes written most significant first (R190). -/
def beNat (bs : List Byte) : Nat := bs.foldl (fun n b => n * 256 + b.toNat) 0

/-- The 8-bit sum of bytes (R175, R196). -/
def byteSum (bs : List Byte) : Byte := bs.foldl (fun a b => a + b) 0

/-- The check byte that brings the 8-bit sum to 00h (R175, R196). -/
def checkByteOf (bs : List Byte) : Byte := 0 - byteSum bs

/-- The motion codes of a position word (R196). -/
def motionOfCode (n : Nat) : Option Motion :=
  match n with
  | 1 => some .play
  | 2 => some .park
  | 3 => some .wind
  | _ => none

/-- A position word read from its bytes; `none` is the reason FORM (R18, R196). -/
def readPositionWord (bytes : List Byte) : Option RawWord :=
  match bytes with
  | [marker, hh, mm, ss, ff, codes, check] =>
    if marker = 0xA6 ∧ byteSum [hh, mm, ss, ff, codes, check] = 0 ∧ codes &&& 0xCC = 0 then
      (motionOfCode (codes.toNat / 16)).map fun motion =>
        { hours := hh.toNat, minutes := mm.toNat, seconds := ss.toNat, frames := ff.toNat,
          rateCode := codes.toNat % 4, motion := motion }
    else none
  | _ => none

/-- The reason codes of a REFUSED message (R197). -/
def reasonOfCode (b : Byte) : Option RefusedReason :=
  match b.toNat with
  | 1 => some .badTrack
  | 2 => some .trackBusy
  | 3 => some .tooLate
  | 4 => some .notReady
  | _ => none

/-- The flow codes of a FLOW message (R197). -/
def flowOfCode (b : Byte) : Option Flow :=
  match b.toNat with
  | 1 => some .ready
  | 2 => some .hold
  | _ => none

/-- A recorder message read from its bytes; `none` when it is unreadable (R144, R197). -/
def readMessage (bytes : List Byte) : Option RecMessage :=
  match bytes with
  | [marker, kind, t1, t0, v3, v2, v1, v0, check] =>
    if marker = 0x5D ∧ byteSum [kind, t1, t0, v3, v2, v1, v0, check] = 0 then
      match kind.toNat with
      | 1 => some (.done (t1 ++ t0) (v3 ++ v2 ++ v1 ++ v0))
      | 2 =>
        if v3 = 0 ∧ v2 = 0 ∧ v1 = 0 then (reasonOfCode v0).map fun r => .refused (t1 ++ t0) r else none
      | 3 =>
        if t1 = 0 ∧ t0 = 0 ∧ v3 = 0 ∧ v2 = 0 ∧ v1 = 0 then (flowOfCode v0).map fun f => .flow f else none
      | _ => none
    else none
  | _ => none

/-- The row of a well-framed control frame that the intake takes as a request, by its kind byte (R191).
PASS-BUILD, TAKE-MARK, LOG-SEEK and BOOTH-FILTER have a row for each form, option or operation; a frame of theirs
that names none of them belongs to the first row and is refused there (entry 6). -/
def rowOfFrame (kind : Byte) (tag : Tag) (body : List Byte) : Instr :=
  match kind.toNat with
  | 0x01 => .reelDefine tag body
  | 0x02 => .reelDrop tag body
  | 0x03 => .reelList tag body
  | 0x04 => .stageSet tag body
  | 0x05 => .stageGet tag body
  | 0x06 => .cuePut tag body
  | 0x07 => .cueAmend tag body
  | 0x08 => .cueDrop tag body
  | 0x09 => .cueGet tag body
  | 0x0A => .cueList tag body
  | 0x0B => if (body.getD 4 0).toNat / 4 % 2 = 1 then .passBuildList tag body else .passBuildRange tag body
  | 0x0C => .passGet tag body
  | 0x0D => .passCutover tag body
  | 0x0E => .passDiscard tag body
  | 0x0F => .passStop tag body
  | 0x10 => .passAbort tag body
  | 0x11 => .passClear tag body
  | 0x12 => .boothHold tag body
  | 0x13 => .boothRelease tag body
  | 0x14 => .trackGet tag body
  | 0x15 =>
    match body with
    | 1 :: _ => .takeMarkClear tag body
    | 2 :: _ => .takeMarkInvert tag body
    | _ => .takeMarkSet tag body
  | 0x16 => .takeDrop tag body
  | 0x17 =>
    match body with
    | 1 :: _ => .logSeekNewest tag body
    | 2 :: _ => .logSeekSerial tag body
    | _ => .logSeekOldest tag body
  | 0x18 => .logRead tag body
  | 0x19 => .boothSet tag body
  | 0x1A =>
    match body.getD 1 0 with
    | 1 => .boothFilterClear tag body
    | 2 => .boothFilterInvert tag body
    | _ => .boothFilterSet tag body
  | 0x1B => .boothGet tag body
  | 0x1C => .lineGet tag body
  | 0x1D => .noticeSet tag body
  | 0x1E => .status tag body
  | 0x1F => .ident tag body
  | 0x20 => .restart tag body
  | _ => .unknownKind kind tag body

/-- The control frame that carries a request row: its kind, tag and body (R191); `none` for the other rows. -/
def Instr.request (i : Instr) : Option (Byte × Tag × List Byte) :=
  match i with
  | .reelDefine t b => some (0x01, t, b)
  | .reelDrop t b => some (0x02, t, b)
  | .reelList t b => some (0x03, t, b)
  | .stageSet t b => some (0x04, t, b)
  | .stageGet t b => some (0x05, t, b)
  | .cuePut t b => some (0x06, t, b)
  | .cueAmend t b => some (0x07, t, b)
  | .cueDrop t b => some (0x08, t, b)
  | .cueGet t b => some (0x09, t, b)
  | .cueList t b => some (0x0A, t, b)
  | .passBuildRange t b => some (0x0B, t, b)
  | .passBuildList t b => some (0x0B, t, b)
  | .passGet t b => some (0x0C, t, b)
  | .passCutover t b => some (0x0D, t, b)
  | .passDiscard t b => some (0x0E, t, b)
  | .passStop t b => some (0x0F, t, b)
  | .passAbort t b => some (0x10, t, b)
  | .passClear t b => some (0x11, t, b)
  | .boothHold t b => some (0x12, t, b)
  | .boothRelease t b => some (0x13, t, b)
  | .trackGet t b => some (0x14, t, b)
  | .takeMarkSet t b => some (0x15, t, b)
  | .takeMarkClear t b => some (0x15, t, b)
  | .takeMarkInvert t b => some (0x15, t, b)
  | .takeDrop t b => some (0x16, t, b)
  | .logSeekOldest t b => some (0x17, t, b)
  | .logSeekNewest t b => some (0x17, t, b)
  | .logSeekSerial t b => some (0x17, t, b)
  | .logRead t b => some (0x18, t, b)
  | .boothSet t b => some (0x19, t, b)
  | .boothFilterSet t b => some (0x1A, t, b)
  | .boothFilterClear t b => some (0x1A, t, b)
  | .boothFilterInvert t b => some (0x1A, t, b)
  | .boothGet t b => some (0x1B, t, b)
  | .lineGet t b => some (0x1C, t, b)
  | .noticeSet t b => some (0x1D, t, b)
  | .status t b => some (0x1E, t, b)
  | .ident t b => some (0x1F, t, b)
  | .restart t b => some (0x20, t, b)
  | .unknownKind k t b => some (k, t, b)
  | .powerOn => none
  | .positionWord _ => none
  | .absenceTimerExpiry => none
  | .freewheelTimerExpiry => none
  | .noSignalTimerExpiry _ => none
  | .boothFrameSent _ => none
  | .frameFault _ => none
  | .gapTimerExpiry => none
  | .busy _ _ _ => none
  | .restartingDiscard _ _ _ => none
  | .outboundFrameSent => none
  | .done _ _ => none
  | .refused _ _ => none
  | .flow _ => none
  | .unreadableMessage _ => none
  | .beginSend => none
  | .orderTransmissionEnd => none
  | .awaitingExpiry _ => none

/-- The host's fixed decoder. spec/opcode_table.json gives no row any bits, so no word spells a command. -/
def decodeTableWord (_nbits _w : Nat) : Option Instr := none

end Sys2Proof
end

