-- ==== Sys2Proof/Config.lean ====
section
/-! DEFINITION. Config.lean: the free values of the model, each one an opaque constant with no body, so that a
statement about the model holds whatever the value is. Each is named in notes/assumptions. -/

namespace Sys2Proof

/-- Who may take the next piece of work while one announcement is being taken: a booth controller, or the
recorder link's transmitter (R119, R147, R149, R150). -/
inductive Agent where
  | booth (b : BoothId)
  | link
  deriving DecidableEq, Repr

/-- The block that posts a notice or the reply (section 10.4). -/
inductive Source where
  | chase
  | booth (b : BoothId)
  | takeLog
  | recorder
  | receiver
  | intake
  deriving DecidableEq, Repr

/-- DESIGN CHOICE (entry 2). The interleaving of the booth controllers and the link within one announcement,
applied to the counter `free` of the state. R119: the part does not fix that order. -/
opaque Config.workSchedule : Nat → List Agent

/-- DESIGN CHOICE (entry 3). The order in which notices of different blocks and a reply reach the outbound queue,
applied to the counter `free` of the state. R181: they reach the queue in either order. -/
opaque Config.noticeSchedule : Nat → List Source

/-- DESIGN CHOICE (entry 12). Whether the unused bytes of a reel label in a request are checked to be 20h.
R190 gives the fill and no rule says what a request with another fill meets. -/
opaque Config.labelFillChecked : Bool

end Sys2Proof
end

