-- ==== Sys2Proof/Machine/State.lean ====
section
/-! DEFINITION. Machine/State.lean: the state of the part as plain data, one record for each block of section 0.2,
the reasons a step can stop, and the state right after power-on. -/

namespace Sys2Proof.Machine

/-- Four like things, one for each booth 1 to 4. -/
structure Quad (α : Type) where
  q1 : α
  q2 : α
  q3 : α
  q4 : α
  deriving DecidableEq, Repr

/-! ## Chase unit and stage settings (R1, R19, R20) -/

/-- The stage rates (R1). -/
inductive StageRate where
  | r24 | r25 | r30 | r30df
  deriving DecidableEq, Repr

/-- A timer stated in frame periods: stopped, or running for a number of half frame periods of the rate that was
in force when it was started (R9). -/
inductive Timer where
  | stopped
  | running (halves : Nat) (rate : StageRate)
  deriving DecidableEq, Repr

/-- The chase states (R19). A booth frame's picture has the same values (R171). -/
inductive ChaseState where
  | noSignal | acquiring | locked | freewheel | parked | winding
  deriving DecidableEq, Repr

/-- The state of the chase unit (R19, R20). -/
structure Chase where
  state : ChaseState
  lastPos : Option Nat
  runCount : Nat
  fwCount : Option Nat
  fwAdvances : Nat
  lastAdvanced : Option Nat
  badRun : Bool
  absence : Timer
  fwTimer : Timer
  deriving DecidableEq, Repr

/-- The six stage settings (section 2.8). -/
structure Stage where
  rate : StageRate
  lockCount : Nat
  fwLimit : Nat
  latency : Nat
  pre : Nat
  post : Nat
  deriving DecidableEq, Repr

/-- The reasons for which a position word is invalid (R18). -/
inductive WordFault where
  | form | rate | label
  deriving DecidableEq, Repr

/-- The causes of a roll break (R32). -/
inductive BreakCause where
  | relocate | park | wind | signalLost | stage
  deriving DecidableEq, Repr

/-! ## Reel map (R10) -/

/-- A reel record (R10). The label is held as the codes of its characters. -/
structure Reel where
  id : Nat
  start : Nat
  length : Nat
  label : List Byte
  deriving DecidableEq, Repr

/-! ## Cue table (R39, R52) -/

/-- How the guide track is gated for a line (R41). -/
inductive Guide where
  | none | lead | full
  deriving DecidableEq, Repr

/-- A beep pattern (R39). -/
structure Beep where
  count : Nat
  spacing : Nat
  length : Nat
  deriving DecidableEq, Repr

/-- The fields of a cue that the host supplies (R39). -/
structure CueFields where
  id : Nat
  inPos : Nat
  outPos : Nat
  character : Nat
  tracks : List Nat
  streamer : Option Nat
  beep : Option Beep
  guide : Option Guide
  scriptRef : Option Nat
  deriving DecidableEq, Repr

/-- A pass mark other than none (R52). -/
structure Mark where
  booth : BoothId
  active : Bool
  staged : Bool
  deriving DecidableEq, Repr

/-- A cue record: the host's fields and the three that the table keeps (R39). -/
structure Cue where
  fields : CueFields
  reel : Nat
  nextTake : Nat
  mark : Option Mark
  deriving DecidableEq, Repr

/-! ## Booth controllers (R59, R60, R68, R88, R165) -/

/-- What is done with each line of a pass (R59). -/
inductive Mode where
  | rehearse | record | review
  deriving DecidableEq, Repr

/-- Whether a worked entry leaves the pass (R59). -/
inductive Policy where
  | once | repeated
  deriving DecidableEq, Repr

/-- One cue's place in a pass (R60). `live` is the entry state LIVE, its negation WAITING. -/
structure Entry where
  cue : Nat
  live : Bool
  takesMade : Nat
  deriving DecidableEq, Repr

/-- A pass context that is not empty (R59). The cursor is an index from 1, or `none` for end.
The reach end is a plain number (R59, R7). -/
structure Context where
  mode : Mode
  policy : Policy
  limit : Nat
  kept : Nat
  entries : List Entry
  cursor : Option Nat
  reachEnd : Int
  deriving DecidableEq, Repr

/-- The copy of a cue's fields, the booth's and the stage's values taken at admission (R89). -/
structure Snapshot where
  inPos : Nat
  outPos : Nat
  character : Nat
  tracks : List Nat
  scriptRef : Option Nat
  streamer : Nat
  beep : Beep
  guide : Guide
  delay : Nat
  pre : Nat
  post : Nat
  latency : Nat
  deriving DecidableEq, Repr

/-- The window events (R90). -/
inductive EventKind where
  | streamerOn | streamerOff
  | beepOn (k : Nat) | beepOff (k : Nat)
  | guideOn | guideOff
  | lampOn | lampOff
  | punchIn | opening | punchOut | closing
  | play
  | ending
  deriving DecidableEq, Repr

/-- The state of an event of a live entry (R91). -/
inductive EventState where
  | pending | taken | passed | void
  deriving DecidableEq, Repr

/-- A window event with its due and its act-at, both plain numbers (R90). -/
structure WinEvent where
  kind : EventKind
  due : Int
  actAt : Int
  state : EventState
  deriving DecidableEq, Repr

/-- The four gates of a live entry (R92). -/
structure Gates where
  streamer : Bool
  beep : Bool
  guide : Bool
  lamp : Bool
  deriving DecidableEq, Repr

/-- The take that a live entry holds in RECORD (R88), with its take number (entry 15). -/
structure HeldTake where
  serial : Nat
  number : Nat
  deriving DecidableEq, Repr

/-- The take chosen for playback in REVIEW (R89), with its take number (entry 15). -/
structure Played where
  serial : Nat
  number : Nat
  track : Nat
  start : Nat
  stop : Nat
  deriving DecidableEq, Repr

/-- A live entry in a place of the cue window (R88). -/
structure LiveEntry where
  cueId : Nat
  snap : Snapshot
  take : Option HeldTake
  played : Option Played
  events : List WinEvent
  gates : Gates
  startTag : Option Tag
  stopTag : Option Tag
  deriving DecidableEq, Repr

/-- The booth states (R68). -/
inductive BoothState where
  | empty | ready | rolling | held | stopping | done
  deriving DecidableEq, Repr

/-- The five booth settings (R165). -/
structure BoothSettings where
  delay : Nat
  streamer : Nat
  beep : Beep
  guide : Guide
  priority : Nat
  deriving DecidableEq, Repr

/-- A booth controller (R68, R88, R108, R165). The window lists its live entries front first (R88). -/
structure Booth where
  state : BoothState
  settings : BoothSettings
  filter : List Nat
  active : Option Context
  staged : Option Context
  cutPending : Bool
  window : List LiveEntry
  lastTaken : Option Nat
  deriving DecidableEq, Repr

/-- The causes of a change of booth state (R85). -/
inductive BoothCause where
  | cutover | roll | broken | runOut | hold | release | stop | abort | complete | limit | takeClosed | clear
  deriving DecidableEq, Repr

/-- The reasons of a step-over (R99). -/
inductive StepReason where
  | late | clash | crowded | noTake | takesExhausted | noTrack | spanPoolFull | queueFull
  deriving DecidableEq, Repr

/-! ## Track allocator (R113) -/

/-- An occupied span of one track (R113). -/
structure Span where
  track : Nat
  start : Nat
  stop : Nat
  serial : Nat
  deriving DecidableEq, Repr

/-! ## Take log (R127, R128, R136) -/

/-- The states of a take (R127). -/
inductive TakeState where
  | planned | opened | withdrawing | kept | truncated | aborted | failed | overwritten | dropped
  deriving DecidableEq, Repr

/-- The reasons for which a take fails (R127). -/
inductive FailReason where
  | lateIn | queueFull | freewheel | refused | broken | restart
  deriving DecidableEq, Repr

/-- The flags of a take record (R127). -/
structure TakeFlags where
  unconfirmedIn : Bool
  unconfirmedOut : Bool
  lateOut : Bool
  deriving DecidableEq, Repr

/-- A take record (R127). -/
structure Take where
  serial : Nat
  cue : Nat
  number : Nat
  booth : BoothId
  track : Nat
  plannedStart : Nat
  plannedEnd : Nat
  spanEnd : Option Nat
  recIn : Option Nat
  recOut : Option Nat
  state : TakeState
  reason : Option FailReason
  flags : TakeFlags
  circled : Bool
  closing : Option Nat
  deriving DecidableEq, Repr

/-- The take log: its records in ascending serial, the serial counter and the read cursor as a serial bound
(R127, R128, R136). -/
structure TakeLog where
  records : List Take
  counter : Nat
  bound : Nat
  deriving DecidableEq, Repr

/-! ## Recorder link (R143, R146, R154, R160) -/

/-- What an order says to the recorder (R143). -/
inductive OrderBody where
  | punchIn (track : Nat) (frame : Nat)
  | punchOut (track : Nat) (frame : Nat)
  | punchOutNow (track : Nat)
  | play (track : Nat) (start : Nat) (stop : Nat)
  | cancel (target : Tag)
  | haltAll
  deriving DecidableEq, Repr

/-- An order with the items the link keeps beside it (R143), and whether its named frame has been reported reached
(R154, entry 17). -/
structure Order where
  body : OrderBody
  tag : Tag
  booth : Option BoothId
  take : Option Nat
  cue : Option Nat
  raisedAt : Option Nat
  reached : Bool
  deriving DecidableEq, Repr

/-- The stages of an awaiting entry (R154). -/
inductive AwaitStage where
  | running | expired
  deriving DecidableEq, Repr

/-- An awaiting entry (R154). `sendEnded` says that the order's transmission has ended (entry 17). -/
structure Awaiting where
  order : Order
  stage : AwaitStage
  sendEnded : Bool
  timer : Timer
  deriving DecidableEq, Repr

/-- An entry of the outstanding-start list (R160). A PLAY's entry keeps the PLAY's tag too (entry 16). -/
inductive Outstanding where
  | punchIn (booth : BoothId) (serial : Nat)
  | play (booth : BoothId) (cue : Nat) (tag : Tag)
  deriving DecidableEq, Repr

/-- The state of the recorder link (R146). `transmitter` is `none` when idle. -/
structure RecLink where
  flow : Flow
  stopLane : List Order
  startLane : List Order
  transmitter : Option Order
  awaiting : List Awaiting
  outstanding : List Outstanding
  tagCounter : Tag
  deriving DecidableEq, Repr

/-- The kinds of an answer (R144). -/
inductive AnswerKind where
  | done | refused
  deriving DecidableEq, Repr

/-! ## Booth lines (R169, R171) -/

/-- The content of a booth frame, all its fields but the sequence number (R171). -/
structure FrameContent where
  picture : ChaseState
  boothState : BoothState
  display : Option Nat
  reel : Option Nat
  frontCue : Option Nat
  character : Option Nat
  scriptRef : Option Nat
  streamer : Option Nat
  beep : Bool
  lamp : Bool
  guide : Bool
  countdown : Option Nat
  takeNumber : Option Nat
  deriving DecidableEq, Repr

/-- A booth frame whose transmission has begun (R169). -/
structure BoothFrame where
  sequence : Byte
  content : FrameContent
  deriving DecidableEq, Repr

/-- A booth line (R169). `sending` says that a frame is being sent. -/
structure Line where
  last : Option BoothFrame
  waiting : Option FrameContent
  seq : Byte
  timer : Timer
  sending : Bool
  deriving DecidableEq, Repr

/-! ## Link controller (R175 to R183) -/

/-- The six notice classes that can be disabled and lost (R182, R183). -/
inductive NoticeClass where
  | chase | booth | cue | take | recorder | link
  deriving DecidableEq, Repr

/-- A set of notice classes (R182, R183). -/
structure ClassSet where
  chase : Bool
  booth : Bool
  cue : Bool
  take : Bool
  recorder : Bool
  link : Bool
  deriving DecidableEq, Repr

/-- The resets (R185). -/
inductive ResetCause where
  | powerOn | restart
  deriving DecidableEq, Repr

/-- The frame faults (R176). -/
inductive FrameFault where
  | length | gap | check
  deriving DecidableEq, Repr

/-- The kinds of order as a RECORDER notice names them (R162). -/
inductive OrderKind where
  | punchIn | punchOut | punchOutNow | play | cancel | haltAll
  deriving DecidableEq, Repr

/-- The kinds of TAKE notice (R139). -/
inductive TakeNoticeKind where
  | state | update
  deriving DecidableEq, Repr

/-- A notice (section 10.4). -/
inductive Notice where
  | chase (prev new : ChaseState) (pos : Option Nat) (cause : Option BreakCause)
  | badWord (reason : WordFault)
  | boothState (booth : BoothId) (prev new : BoothState) (cause : BoothCause) (kept entries : Option Nat)
  | cutover (booth : BoothId) (entries : Nat) (wasPending : Bool)
  | cue (booth : BoothId) (cue : Nat) (reason : StepReason) (pos : Nat)
  | take (kind : TakeNoticeKind) (record : Take)
  | recFlow (flow : Flow)
  | recRefused (tag : Tag) (kind : OrderKind) (reason : RefusedReason) (booth : Option BoothId) (take : Option Nat)
  | recSilent (tag : Tag) (kind : OrderKind) (booth : Option BoothId) (take : Option Nat)
  | recStray (tag : Option Tag) (kind : Option AnswerKind)
  | link (fault : FrameFault)
  | lost (classes : ClassSet)
  | hello (cause : ResetCause) (enabled : ClassSet)
  deriving DecidableEq, Repr

/-- The result codes of a reply but OK and BUSY, in the order of the table of R178. -/
inductive ResultCode where
  | unknownKind | badLength | badValue | wrongState | rateLocked
  | reelOverlap | reelTableFull | reelInUse | noSuchReel | offReel
  | cueTableFull | cueInPass | cueHasTakes | noSuchCue
  | cueOverlap | passFull | passEmpty | noStaged
  | noSuchTake | notMarkable | takeCircled | takeLive
  deriving DecidableEq, Repr

/-- The fields of a context that a PASS-GET reply carries beside its entries, the reach end as it is sent (R2, R67). -/
structure PassHead where
  mode : Mode
  policy : Policy
  limit : Nat
  kept : Nat
  count : Nat
  cursor : Option Nat
  reachEnd : Nat
  deriving DecidableEq, Repr

/-- The content of a PASS-GET reply (R67): no head when the context is empty; the pending flag for ACTIVE alone. -/
structure PassView where
  head : Option PassHead
  entries : List Entry
  more : Bool
  cutPending : Option Bool
  deriving DecidableEq, Repr

/-- A booth's part of a STATUS reply (R184, R194). The cursor is `none` when the active pass is empty. -/
structure BoothStatus where
  state : BoothState
  activeCount : Option Nat
  stagedCount : Option Nat
  cursor : Option (Option Nat)
  front : Option Nat
  back : Option Nat
  cutPending : Bool
  deriving DecidableEq, Repr

/-- The content of a STATUS reply (R184). -/
structure StatusView where
  chase : ChaseState
  pos : Option Nat
  booths : Quad BoothStatus
  flow : Flow
  stopCount : Nat
  startCount : Nat
  awaitingCount : Nat
  outstandingCount : Nat
  records : Nat
  spansInUse : Nat
  enabled : ClassSet
  lost : ClassSet
  deriving DecidableEq, Repr

/-- The content of a reply (R178 and the rules of the requests). -/
inductive Reply where
  | refused (code : ResultCode)
  | refusedCue (code : ResultCode) (cue : Nat)
  | refusedOverlap (later earlier : Nat)
  | refusedFull (selected : Nat)
  | refusedTake (code : ResultCode) (serial : Nat)
  | ok
  | reel (r : Reel)
  | reels (rs : List Reel)
  | stage (settings : Stage)
  | cue (c : Cue)
  | cueId (id : Nat)
  | cues (cs : List Cue) (more : Bool)
  | built (booth : BoothId) (count first last reachEnd : Nat)
  | pass (view : PassView)
  | cutover (wasSetPending : Bool)
  | entryCount (n : Nat)
  | stop (stopping : Bool)
  | track (track total : Nat) (spans : List Span) (more : Bool)
  | marks (circled : List (Nat × Bool))
  | dropped (serial track : Nat) (spanEnd : Option Nat)
  | seek (serial : Option Nat)
  | log (records : List Take) (ended : Bool) (oldest : Option Nat)
  | boothSettings (settings : BoothSettings)
  | filter (ids : List Nat)
  | booth (settings : BoothSettings) (filter : List Nat)
  | line (last : Option BoothFrame)
  | enabled (classes : ClassSet)
  | status (view : StatusView)
  | ident (cause : ResetCause)
  deriving DecidableEq, Repr

/-- What a control frame of the part carries (R179). Its bytes are a view of it (Machine/Wire.lean). -/
inductive FrameBody where
  | reply (r : Reply)
  | busy
  | notice (n : Notice)
  deriving DecidableEq, Repr

/-- A control frame of the part in the outbound queue (R175, R179). -/
structure OutFrame where
  kind : Byte
  tag : Tag
  body : FrameBody
  deriving DecidableEq, Repr

/-- The receiver's states: in FRAME it holds the bytes collected from the marker on, and its gap timer runs (R176). -/
inductive Receiver where
  | hunt
  | frame (collected : List Byte)
  deriving DecidableEq, Repr

/-- The intake's states (R177): in HANDLING between two commands a reply waits for room in the queue (R180). -/
inductive Intake where
  | idle
  | handling (reply : OutFrame)
  | restarting
  deriving DecidableEq, Repr

/-- The link controller (R176 to R185). The first frame of the queue is the one being sent (R179). -/
structure Control where
  receiver : Receiver
  faultRun : Bool
  intake : Intake
  queue : List OutFrame
  lost : ClassSet
  enabled : ClassSet
  resetCause : ResetCause
  deriving DecidableEq, Repr

/-- A notice or a reply on its way from a block to the outbound queue (entry 3). -/
structure Post where
  source : Source
  frame : OutFrame
  deriving DecidableEq, Repr

/-- Why a step can stop with a fault: there is no such reason. The spec describes no command and no state in which
the part stops, so the type has no constructor and every command has a next state. Safe: nothing is claimed of a
stopped part. -/
inductive Fault where
  deriving DecidableEq, Repr

/-- Why a step can be refused. -/
inductive Refusal where
  /-- Raised by `exec` for a command that has no meaning yet, by its mnemonic. No arm raises it in this model.
  Safe: it makes statements unprovable, never false ones provable. -/
  | notModelled (mnemonic : String)
  deriving DecidableEq, Repr

/-- The state of the part: the blocks of section 0.2, the queue of waiting commands (entry 1), and two fields of
the model's own (entries 2 and 3). -/
structure State where
  /-- Chase unit (R19). -/
  chase : Chase
  /-- Stage settings (section 2.8). -/
  stage : Stage
  /-- Reel map, in ascending reel id (R10). -/
  reels : List Reel
  /-- Cue table, in ascending cue id (R40). -/
  cues : List Cue
  /-- Booth controllers BC1 to BC4 (R68). -/
  booths : Quad Booth
  /-- Occupancy map, in ascending track and start (R113). -/
  spans : List Span
  /-- Take log (R127). -/
  log : TakeLog
  /-- Recorder link (R146). -/
  link : RecLink
  /-- Booth lines BL1 to BL4 (R169). -/
  lines : Quad Line
  /-- Link controller (R176 to R185). -/
  ctl : Control
  /-- Notices and the reply of the command in hand, in the order of posting; empty between commands (entry 3). -/
  posted : List Post
  /-- The counter that the free values are applied to (entries 2 and 3). -/
  free : Nat
  /-- The commands that wait, first in first out (entry 1). -/
  pending : List Instr
  deriving DecidableEq, Repr

/-! ## Reset values -/

/-- No notice class. -/
def ClassSet.none : ClassSet := ⟨false, false, false, false, false, false⟩

/-- All six notice classes (R183, R186). -/
def ClassSet.all : ClassSet := ⟨true, true, true, true, true, true⟩

/-- The chase unit after either reset (R38). -/
def Chase.reset : Chase :=
  { state := .noSignal, lastPos := none, runCount := 0, fwCount := none, fwAdvances := 0, lastAdvanced := none,
    badRun := false, absence := .stopped, fwTimer := .stopped }

/-- The stage settings after power-on (section 2.8). -/
def Stage.powerUp : Stage :=
  { rate := .r24, lockCount := 4, fwLimit := 8, latency := 2, pre := 12, post := 12 }

/-- A booth controller after power-on (R87, R165), with its priority, booth number − 1. -/
def Booth.powerUp (priority : Nat) : Booth :=
  { state := .empty,
    settings := { delay := 1, streamer := 48, beep := ⟨3, 24, 3⟩, guide := .lead, priority := priority },
    filter := [], active := none, staged := none, cutPending := false, window := [], lastTaken := none }

/-- The recorder link after power-on (R164). -/
def RecLink.powerUp : RecLink :=
  { flow := .hold, stopLane := [], startLane := [], transmitter := none, awaiting := [], outstanding := [],
    tagCounter := 0 }

/-- The NO_SIGNAL frame of an EMPTY booth (R171, R174). -/
def FrameContent.blank : FrameContent :=
  { picture := .noSignal, boothState := .empty, display := none, reel := none, frontCue := none, character := none,
    scriptRef := none, streamer := none, beep := false, lamp := false, guide := false, countdown := none,
    takeNumber := none }

/-- A booth line after power-on, with the NO_SIGNAL frame that falls due at once begun and its NO_SIGNAL timer
running for one second of frame periods at rate 24 (R170, R174). -/
def Line.powerUp : Line :=
  { last := some { sequence := 0, content := .blank }, waiting := none, seq := 1, timer := .running 48 .r24,
    sending := true }

/-- The link controller after power-on, with the HELLO notice placed in its empty queue (R186, R191). -/
def Control.powerUp : Control :=
  { receiver := .hunt, faultRun := false, intake := .idle,
    queue := [{ kind := 0xD8, tag := 0, body := .notice (.hello .powerOn .all) }],
    lost := .none, enabled := .all, resetCause := .powerOn }

/-- The part right after power-on: every block at its power-on state, the HELLO notice placed as the first frame and
a NO_SIGNAL frame begun on each booth line (R16, R38, R58, R87, R112, R126, R142, R164, R165, R174, R186; entry 18). -/
def State.reset : State :=
  { chase := .reset, stage := .powerUp, reels := [], cues := [],
    booths := ⟨.powerUp 0, .powerUp 1, .powerUp 2, .powerUp 3⟩,
    spans := [], log := { records := [], counter := 1, bound := 1 }, link := .powerUp,
    lines := ⟨.powerUp, .powerUp, .powerUp, .powerUp⟩, ctl := .powerUp,
    posted := [], free := 0, pending := [] }

end Sys2Proof.Machine
end

