-- ==== Sys2Proof/Machine/Flags.lean ====
section
/-! DEFINITION. Machine/Flags.lean: the small sets of flags the part keeps and what sets them: notice class sets
(R182, R183), pass marks (R52, R53), take states and flags (R127, R132), gates (R92). -/

namespace Sys2Proof.Machine

/-! ## Four like things -/

/-- The thing of booth or line `b`. -/
def Quad.get {α : Type} (q : Quad α) (b : BoothId) : α :=
  match b with
  | .bc1 => q.q1
  | .bc2 => q.q2
  | .bc3 => q.q3
  | .bc4 => q.q4

/-- The four things with that of booth or line `b` replaced. -/
def Quad.set {α : Type} (q : Quad α) (b : BoothId) (x : α) : Quad α :=
  match b with
  | .bc1 => { q with q1 := x }
  | .bc2 => { q with q2 := x }
  | .bc3 => { q with q3 := x }
  | .bc4 => { q with q4 := x }

/-- A function applied to each of the four. -/
def Quad.map {α β : Type} (f : α → β) (q : Quad α) : Quad β := ⟨f q.q1, f q.q2, f q.q3, f q.q4⟩

/-- The four, booth 1 first. -/
def Quad.toList {α : Type} (q : Quad α) : List α := [q.q1, q.q2, q.q3, q.q4]

/-- A booth's number, 1 to 4. -/
def boothNumber (b : BoothId) : Nat :=
  match b with
  | .bc1 => 1
  | .bc2 => 2
  | .bc3 => 3
  | .bc4 => 4

/-- The booth of a number. -/
def boothOfNumber (n : Nat) : Option BoothId :=
  match n with
  | 1 => some .bc1
  | 2 => some .bc2
  | 3 => some .bc3
  | 4 => some .bc4
  | _ => none

/-- The four booths, booth 1 first. -/
def allBooths : List BoothId := [.bc1, .bc2, .bc3, .bc4]

/-! ## Notice classes (R181 to R183) -/

/-- A class is in a set. -/
def ClassSet.has (s : ClassSet) (c : NoticeClass) : Bool :=
  match c with
  | .chase => s.chase
  | .booth => s.booth
  | .cue => s.cue
  | .take => s.take
  | .recorder => s.recorder
  | .link => s.link

/-- The set with a class added; a class already in it stays once (R182). -/
def ClassSet.add (s : ClassSet) (c : NoticeClass) : ClassSet :=
  match c with
  | .chase => { s with chase := true }
  | .booth => { s with booth := true }
  | .cue => { s with cue := true }
  | .take => { s with take := true }
  | .recorder => { s with recorder := true }
  | .link => { s with link := true }

/-- The class of a notice; LOST and HELLO are of no class of the six (section 10.4, R182). -/
def Notice.cls (n : Notice) : Option NoticeClass :=
  match n with
  | .chase .. => some .chase
  | .badWord .. => some .chase
  | .boothState .. => some .booth
  | .cutover .. => some .booth
  | .cue .. => some .cue
  | .take .. => some .take
  | .recFlow .. => some .recorder
  | .recRefused .. => some .recorder
  | .recSilent .. => some .recorder
  | .recStray .. => some .recorder
  | .link .. => some .link
  | .lost .. => none
  | .hello .. => none

/-! ## Take states and flags (R115, R127, R132) -/

/-- The live states: PLANNED, OPEN, WITHDRAWING (R127). -/
def TakeState.isLive (s : TakeState) : Bool :=
  match s with
  | .planned | .opened | .withdrawing => true
  | .kept | .truncated | .aborted | .failed | .overwritten | .dropped => false

/-- The closed states: KEPT, TRUNCATED, ABORTED (R127). -/
def TakeState.isClosed (s : TakeState) : Bool :=
  match s with
  | .kept | .truncated | .aborted => true
  | .planned | .opened | .withdrawing | .failed | .overwritten | .dropped => false

/-- The terminal states: FAILED, OVERWRITTEN, DROPPED (R127). -/
def TakeState.isTerminal (s : TakeState) : Bool :=
  match s with
  | .failed | .overwritten | .dropped => true
  | .planned | .opened | .withdrawing | .kept | .truncated | .aborted => false

/-- The span-holding states: live and closed (R115). -/
def TakeState.holdsSpan (s : TakeState) : Bool := s.isLive || s.isClosed

/-- No flag (R127). -/
def TakeFlags.empty : TakeFlags := ⟨false, false, false⟩

/-! ## Pass marks (R52, R53) -/

/-- A mark of booth `b` with the two flags given: none when both are clear (R53). -/
def markOf (b : BoothId) (active staged : Bool) : Option Mark :=
  if active || staged then some { booth := b, active := active, staged := staged } else none

/-- The mark with the staged flag of booth `b` set (R53). -/
def Cue.setStaged (b : BoothId) (c : Cue) : Cue :=
  match c.mark with
  | some m => { c with mark := markOf b (m.active && decide (m.booth = b)) true }
  | none => { c with mark := markOf b false true }

/-- The mark with the staged flag of booth `b` cleared (R53). -/
def Cue.clearStaged (b : BoothId) (c : Cue) : Cue :=
  match c.mark with
  | some m => if m.booth = b then { c with mark := markOf b m.active false } else c
  | none => c

/-- The mark with the active flag of booth `b` cleared (R53). -/
def Cue.clearActive (b : BoothId) (c : Cue) : Cue :=
  match c.mark with
  | some m => if m.booth = b then { c with mark := markOf b false m.staged } else c
  | none => c

/-- The mark of a cue of the staged pass at a cut-over: the staged flag cleared, the active flag set (R53). -/
def Cue.stagedToActive (b : BoothId) (c : Cue) : Cue := { c with mark := markOf b true false }

/-- The cue carries the mark of a booth other than `b` (R63, R64). -/
def Cue.markedByOther (b : BoothId) (c : Cue) : Bool :=
  match c.mark with
  | some m => decide (m.booth ≠ b)
  | none => false

/-! ## Gates (R92) -/

/-- All four gates off (R92). -/
def Gates.off : Gates := ⟨false, false, false, false⟩

/-- The four gates of the cue display and cue box (R92). -/
inductive Gate where
  | streamer | beep | guide | lamp
  deriving DecidableEq, Repr

/-- The gates with one of them set to a value. -/
def Gates.put (g : Gates) (gate : Gate) (v : Bool) : Gates :=
  match gate with
  | .streamer => { g with streamer := v }
  | .beep => { g with beep := v }
  | .guide => { g with guide := v }
  | .lamp => { g with lamp := v }

/-- The gate that an event sets, and to what; `none` for the recorder and reached events (R92). -/
def EventKind.gate (k : EventKind) : Option (Gate × Bool) :=
  match k with
  | .streamerOn => some (.streamer, true)
  | .streamerOff => some (.streamer, false)
  | .beepOn _ => some (.beep, true)
  | .beepOff _ => some (.beep, false)
  | .guideOn => some (.guide, true)
  | .guideOff => some (.guide, false)
  | .lampOn => some (.lamp, true)
  | .lampOff => some (.lamp, false)
  | .punchIn | .opening | .punchOut | .closing | .play | .ending => none

/-- The class of an event in the order of window work (R93): CLOSE; PUNCH-OUT; gates off; gates on; PUNCH-IN and
PLAY; OPEN; END. -/
def EventKind.cls (k : EventKind) : Nat :=
  match k with
  | .closing => 0
  | .punchOut => 1
  | .streamerOff | .beepOff _ | .guideOff | .lampOff => 2
  | .streamerOn | .beepOn _ | .guideOn | .lampOn => 3
  | .punchIn | .play => 4
  | .opening => 5
  | .ending => 6

end Sys2Proof.Machine
end

