-- ==== Sys2Proof/Machine/Positions.lean ====
section
/-! DEFINITION. Machine/Positions.lean: stage rates, positions, labels, spans and reels (chapter "Positions, rates
and reels", R1 to R11). -/

namespace Sys2Proof.Machine

/-- Label frames per second (R1). -/
def StageRate.fps (r : StageRate) : Nat :=
  match r with
  | .r24 => 24
  | .r25 => 25
  | .r30 => 30
  | .r30df => 30

/-- Frames per day (R1). -/
def StageRate.perDay (r : StageRate) : Nat :=
  match r with
  | .r24 => 2073600
  | .r25 => 2160000
  | .r30 => 2592000
  | .r30df => 2589408

/-- Frames per hour, which bound reel lengths (R1). -/
def StageRate.perHour (r : StageRate) : Nat :=
  match r with
  | .r24 => 86400
  | .r25 => 90000
  | .r30 => 108000
  | .r30df => 107892

/-- The code of a stage rate (R190). -/
def StageRate.code (r : StageRate) : Nat :=
  match r with
  | .r24 => 0
  | .r25 => 1
  | .r30 => 2
  | .r30df => 3

/-- The stage rate of a code (R190). -/
def StageRate.ofCode (n : Nat) : Option StageRate :=
  match n with
  | 0 => some .r24
  | 1 => some .r25
  | 2 => some .r30
  | 3 => some .r30df
  | _ => none

/-- The position that follows a position (R1). -/
def nextPos (rate : StageRate) (q : Nat) : Nat := if q + 1 = rate.perDay then 0 else q + 1

/-- A computed value as it is sent as a position: reduced modulo the frames per day, so that it lies in the range of R2
(R2, R7; entry 21). -/
def sentPos (rate : StageRate) (p : Int) : Nat := (p % (rate.perDay : Int)).toNat

/-- A label's parts are in the ranges of R3. -/
def labelInRange (rate : StageRate) (h m s f : Nat) : Bool :=
  decide (h ≤ 23) && decide (m ≤ 59) && decide (s ≤ 59) && decide (f < rate.fps)

/-- A label that names an omitted number at 30 DF (R4). -/
def labelOmitted (m s f : Nat) : Bool := decide (s = 0) && decide (f < 2) && decide (m % 10 ≠ 0)

/-- A label is valid at a rate (R3, R4). -/
def labelValid (rate : StageRate) (h m s f : Nat) : Bool :=
  labelInRange rate h m s f &&
    match rate with
    | .r30df => !labelOmitted m s f
    | .r24 | .r25 | .r30 => true

/-- The count of a label by the mixed-radix rule (R3). -/
def nominalCount (fps h m s f : Nat) : Nat := (h * 3600 + m * 60 + s) * fps + f

/-- The count of a valid label (R3, and R5 at 30 DF). -/
def countOfLabel (rate : StageRate) (h m s f : Nat) : Nat :=
  match rate with
  | .r30df =>
    let minutes := h * 60 + m
    nominalCount 30 h m s f - 2 * (minutes - minutes / 10)
  | .r24 | .r25 | .r30 => nominalCount rate.fps h m s f

/-- A label: hours, minutes, seconds and frames. -/
structure Label where
  h : Nat
  m : Nat
  s : Nat
  f : Nat
  deriving DecidableEq, Repr

/-- The label of a count (R3 in the reverse direction, and R6 at 30 DF). -/
def labelOfCount (rate : StageRate) (n : Nat) : Label :=
  match rate with
  | .r30df =>
    let block := n / 17982
    let r := n % 17982
    let k := if r < 1800 then 0 else 1 + (r - 1800) / 1798
    let q := if r < 1800 then r else (r - 1800) % 1798 + 2
    let minutes := 10 * block + k
    { h := minutes / 60, m := minutes % 60, s := q / 30, f := q % 30 }
  | .r24 | .r25 | .r30 =>
    let secs := n / rate.fps
    { h := secs / 3600, m := secs / 60 % 60, s := secs % 60, f := n % rate.fps }

/-- Two spans overlap; spans that only touch do not (R8). -/
def overlaps (a b c e : Nat) : Bool := decide (a < e) && decide (c < b)

/-- A reel's end (R10). -/
def Reel.stop (r : Reel) : Nat := r.start + r.length

/-- A position lies in a reel (R11). -/
def Reel.holds (r : Reel) (q : Nat) : Bool := decide (r.start ≤ q) && decide (q < r.stop)

/-- The reel in which a position lies (R11). -/
def reelAt (reels : List Reel) (q : Nat) : Option Nat := (reels.find? fun r => r.holds q).map (·.id)

/-- The reel in which a cue line is placed (R11). -/
def placeLine (reels : List Reel) (inPos outPos : Nat) : Option Nat :=
  match reelAt reels inPos, reelAt reels (outPos - 1) with
  | some a, some b => if a = b then some a else none
  | _, _ => none

/-- The last allowed end of a reel: the frames per day less the day-end margin of 49 (R10). -/
def StageRate.lastReelEnd (r : StageRate) : Nat := r.perDay - 49

end Sys2Proof.Machine
end

