-- ==== Sys2Proof/Machine/Ops.lean ====
section
/-! DEFINITION. Machine/Ops.lean: the shared operations over the state: posting and placing control frames
(R179 to R182), take records and occupied spans (R121, R122, R130), the recorder link's lanes, tags, awaiting list and
outstanding starts (R145 to R160). Every meaning goes through them. -/

namespace Sys2Proof.Machine

/-! ## Booths -/

/-- A booth controller. -/
def State.booth (s : State) (b : BoothId) : Booth := s.booths.get b

/-- A booth controller changed by a function. -/
def modBooth (b : BoothId) (f : Booth → Booth) (s : State) : State :=
  { s with booths := s.booths.set b (f (s.booths.get b)) }

/-! ## Posting (section 10.4) -/

/-- The kind byte of a notice (R191). -/
def Notice.kind (n : Notice) : Byte :=
  match n with
  | .chase .. | .badWord .. => 0xD1
  | .boothState .. | .cutover .. => 0xD2
  | .cue .. => 0xD3
  | .take .. => 0xD4
  | .recFlow .. | .recRefused .. | .recSilent .. | .recStray .. => 0xD5
  | .link .. => 0xD6
  | .lost .. => 0xD7
  | .hello .. => 0xD8

/-- The control frame of a notice: its tag is 0000h (R175). -/
def noticeFrame (n : Notice) : OutFrame := { kind := n.kind, tag := 0, body := .notice n }

/-- A block posts a frame towards the outbound queue (entry 3). -/
def post (src : Source) (f : OutFrame) (s : State) : State := { s with posted := s.posted ++ [⟨src, f⟩] }

/-- A block posts a notice (section 10.4). -/
def postNotice (src : Source) (n : Notice) (s : State) : State := post src (noticeFrame n) s

/-- The control frame of a reply: the kind of the request with bit 7 set, and its tag (R175, R191). -/
def replyFrame (kind : Byte) (tag : Tag) (r : Reply) : OutFrame := { kind := kind ||| 0x80, tag := tag, body := .reply r }

/-- The control frame of a BUSY reply (R177, R191). -/
def busyFrame (kind : Byte) (tag : Tag) : OutFrame := { kind := kind ||| 0x80, tag := tag, body := .busy }

/-! ## The outbound queue (R179 to R182) -/

/-- The places of the outbound queue (R179). -/
def queuePlaces : Nat := 16

/-- The OK reply to a RESTART, whose leaving is the restart (R187): the reply kind of RESTART with result OK. -/
def OutFrame.isRestartOk (f : OutFrame) : Bool := decide (f.kind = 0xA0) && decide (f.body = .reply .ok)

/-- A frame placed at the end of the queue. -/
def Control.append (f : OutFrame) (c : Control) : Control := { c with queue := c.queue ++ [f] }

/-- A class joins the lost set (R182). -/
def Control.lose (k : NoticeClass) (c : Control) : Control := { c with lost := c.lost.add k }

/-- The reply to the request in hand is placed, or waits in HANDLING; when placed, the intake returns to IDLE, or
enters RESTARTING with an accepted RESTART (R180, R187). -/
def Control.placeReply (f : OutFrame) (c : Control) : Control :=
  if c.queue.length < queuePlaces then
    { c.append f with intake := if f.isRestartOk then .restarting else .idle }
  else { c with intake := .handling f }

/-- A notice of a class is placed when at least two places are free; otherwise its class joins the lost set; a
disabled class does neither (R181, R183). -/
def Control.placeNotice (k : NoticeClass) (f : OutFrame) (c : Control) : Control :=
  if c.enabled.has k then
    if c.queue.length + 2 ≤ queuePlaces then c.append f else c.lose k
  else c

/-- The class that a frame may be removed under: that of a notice of one of the six classes (R181; entry 7). -/
def OutFrame.noticeClass (f : OutFrame) : Option NoticeClass :=
  match f.body with
  | .notice n => n.cls
  | .reply _ => none
  | .busy => none

/-- The frames without the most recently placed notice of the six classes, and that notice's class (R181). -/
def removeLastNotice (fs : List OutFrame) : Option (NoticeClass × List OutFrame) :=
  match fs with
  | [] => none
  | f :: rest =>
    match removeLastNotice rest with
    | some (k, rest') => some (k, f :: rest')
    | none => f.noticeClass.map fun k => (k, rest)

/-- A class joins the lost set unless it is disabled (R181, R183; entry 8). -/
def Control.loseEnabled (k : NoticeClass) (c : Control) : Control := if c.enabled.has k then c.lose k else c

/-- A BUSY reply is placed; short of room it takes the place of the last notice not begun; when there is none, the
frame goes unanswered and LINK joins the lost set as an overrun (R181). The first frame of the queue has begun. -/
def Control.placeBusy (f : OutFrame) (c : Control) : Control :=
  if c.queue.length + 2 ≤ queuePlaces then c.append f
  else
    match c.queue with
    | [] => c.append f
    | sending :: rest =>
      match removeLastNotice rest with
      | some (k, rest') => ({ c with queue := sending :: rest' }.loseEnabled k).append f
      | none => c.lose .link

/-- A posted frame reaches the queue (R180, R181). LOST and HELLO are never posted: they are placed by their own
rules (R182, R186, R188). -/
def Control.placePosted (f : OutFrame) (c : Control) : Control :=
  match f.body with
  | .reply _ => c.placeReply f
  | .busy => c.placeBusy f
  | .notice n =>
    match n.cls with
    | some k => c.placeNotice k f
    | none => c

/-- Posted frames reach the queue one after another. -/
def Control.placeAll (fs : List Post) (c : Control) : Control := fs.foldl (fun c x => c.placePosted x.frame) c

/-- The first frame posted by a source, and the others in their order. -/
def takeFirst (src : Source) (ps : List Post) : Option (Post × List Post) :=
  match ps with
  | [] => none
  | p :: rest =>
    if p.source = src then some (p, rest)
    else (takeFirst src rest).map fun r => (r.1, p :: r.2)

/-- The posted frames in an order that a schedule of sources picks: each source keeps its own order (R85, R139), and
what the schedule leaves keeps the order of posting (R181; entry 3). -/
def mergePosts (sched : List Source) (ps : List Post) : List Post :=
  match sched with
  | [] => ps
  | src :: rest =>
    match takeFirst src ps with
    | some (p, ps') => p :: mergePosts rest ps'
    | none => mergePosts rest ps

/-- All posted frames come from one source, so that their order is given. -/
def oneSource (ps : List Post) : Bool :=
  match ps with
  | [] => true
  | p :: rest => rest.all fun q => decide (q.source = p.source)

/-- The posted frames reach the queue: in their order when one block posted them, else in an order the free value
picks (R181; entry 3). -/
def settle (s : State) : State :=
  if oneSource s.posted then { s with ctl := s.ctl.placeAll s.posted, posted := [] }
  else
    { s with ctl := s.ctl.placeAll (mergePosts (Config.noticeSchedule s.free) s.posted), posted := [],
             free := s.free + 1 }

/-! ## Take records (R127, R130) -/

/-- The take record of a serial. -/
def findTake (serial : Nat) (s : State) : Option Take := s.log.records.find? fun t => decide (t.serial = serial)

/-- The state of the take of a serial; `none` when no record is held. -/
def takeStateOf (serial : Nat) (s : State) : Option TakeState := (findTake serial s).map (·.state)

/-- The record of a serial changed by a function. -/
def modTake (serial : Nat) (f : Take → Take) (s : State) : State :=
  { s with log := { s.log with records := s.log.records.map fun t => if t.serial = serial then f t else t } }

/-- The take log posts a TAKE notice of a take (R139). -/
def noteTake (kind : TakeNoticeKind) (serial : Nat) (s : State) : State :=
  match findTake serial s with
  | some t => postNotice .takeLog (.take kind t) s
  | none => s

/-- A take's span is released (R121). -/
def releaseSpan (serial : Nat) (s : State) : State :=
  { s with spans := s.spans.filter fun x => decide (x.serial ≠ serial) }

/-- A take's span is shrunk to a new end; a shrink does not lengthen it (R122). -/
def shrinkSpan (serial : Nat) (stop : Nat) (s : State) : State :=
  { s with spans := s.spans.map fun x => if x.serial = serial then { x with stop := min x.stop stop } else x }

/-- The record of a take that enters a terminal state (R130). -/
def Take.terminal (st : TakeState) (r : Option FailReason) (t : Take) : Take :=
  { t with state := st, reason := r, spanEnd := none, closing := none }

/-- A take enters a terminal state: its span is released and a TAKE notice STATE is posted (R121, R130, R139). -/
def endTake (serial : Nat) (st : TakeState) (r : Option FailReason) (s : State) : State :=
  noteTake .state serial (releaseSpan serial (modTake serial (Take.terminal st r) s))

/-- A live take becomes FAILED; a take in any other state is left as it is (R130). -/
def failTake (serial : Nat) (r : FailReason) (s : State) : State :=
  match takeStateOf serial s with
  | some st => if st.isLive then endTake serial .failed (some r) s else s
  | none => s

/-- A take becomes OPEN (R101). -/
def openTake (serial : Nat) (s : State) : State := modTake serial (fun t => { t with state := .opened }) s

/-- A take becomes KEPT at its CLOSE, and a TAKE notice STATE is posted (R104, R139). -/
def keepTake (serial : Nat) (s : State) : State :=
  noteTake .state serial (modTake serial (fun t => { t with state := .kept }) s)

/-- A take becomes WITHDRAWING with its closing position (R109). -/
def withdrawTake (serial : Nat) (c : Nat) (s : State) : State :=
  modTake serial (fun t => { t with state := .withdrawing, closing := some c }) s

/-- The new span end of a truncated or aborted take against a closing position, when it is above the planned start
(R108, R110, R141). -/
def cutEnd (t : Take) (c : Option Nat) : Option Nat :=
  match c with
  | some c => let e := min t.plannedEnd (c + 1); if t.plannedStart < e then some e else none
  | none => none

/-- A take becomes TRUNCATED against a closing position: its span is shrunk, or kept whole and flagged
UNCONFIRMED_OUT when no part of it remains above the planned start (R108, R110, R122, R130). -/
def truncateTake (serial : Nat) (c : Option Nat) (s : State) : State :=
  match findTake serial s with
  | none => s
  | some t =>
    match cutEnd t c with
    | some e =>
      noteTake .state serial (shrinkSpan serial e (modTake serial
        (fun t => { t with state := .truncated, spanEnd := t.spanEnd.map (min · e), closing := none }) s))
    | none =>
      noteTake .state serial (modTake serial
        (fun t => { t with state := .truncated, closing := none, flags := { t.flags with unconfirmedOut := true } }) s)

/-- A frame or flag written by R132 posts a TAKE notice UPDATE on a take in a closed or terminal state, when the
record is held and something was written (R132, R139; entry 19). -/
def writeAnswer (serial : Nat) (f : Take → Take) (wrote : Take → Bool) (s : State) : State :=
  match findTake serial s with
  | none => s
  | some t =>
    if wrote t then
      if t.state.isLive then modTake serial f s else noteTake .update serial (modTake serial f s)
    else s

/-! ## Orders and tags (R143, R145) -/

/-- The named frame of an order (R143). -/
def OrderBody.named (o : OrderBody) : Option Nat :=
  match o with
  | .punchIn _ frame => some frame
  | .punchOut _ frame => some frame
  | .play _ start _ => some start
  | .punchOutNow _ => none
  | .cancel _ => none
  | .haltAll => none

/-- The tag that a CANCEL names (R143). -/
def OrderBody.cancels (o : OrderBody) : Option Tag :=
  match o with
  | .cancel t => some t
  | .punchIn .. => none
  | .punchOut .. => none
  | .play .. => none
  | .punchOutNow _ => none
  | .haltAll => none

/-- The kind of an order as notices name it (R162). -/
def OrderBody.kind (o : OrderBody) : OrderKind :=
  match o with
  | .punchIn .. => .punchIn
  | .punchOut .. => .punchOut
  | .punchOutNow _ => .punchOutNow
  | .play .. => .play
  | .cancel _ => .cancel
  | .haltAll => .haltAll

/-- The tags that are passed over: those of orders in the lanes and of awaiting entries, and those that a CANCEL in
the stop lane or the awaiting list names (R145). -/
def heldTags (l : RecLink) : List Tag :=
  l.stopLane.map (·.tag) ++ l.startLane.map (·.tag) ++ l.awaiting.map (·.order.tag) ++
    l.stopLane.filterMap (·.body.cancels) ++ l.awaiting.filterMap (·.order.body.cancels)

/-- The first value from a tag on that is not held, found within as many advances as there are held tags (R145). -/
def freeTag (held : List Tag) : Nat → Tag → Tag
  | 0, t => t
  | n + 1, t => if held.contains t then freeTag held n (t + 1) else t

/-- The tag the next order receives (R145). -/
def nextTag (l : RecLink) : Tag := freeTag (heldTags l) (heldTags l).length l.tagCounter

/-- A stop order enters the stop lane at its end with a tag; it is never refused (R147). An order that names no frame
has none to wait for (R154). -/
def raiseStop (body : OrderBody) (booth : Option BoothId) (take cue raisedAt : Option Nat) (s : State) : State :=
  let tag := nextTag s.link
  let o : Order :=
    { body := body, tag := tag, booth := booth, take := take, cue := cue, raisedAt := raisedAt,
      reached := body.named.isNone }
  { s with link := { s.link with stopLane := s.link.stopLane ++ [o], tagCounter := tag + 1 } }

/-- A start order enters the start lane at its end with a tag (R148). -/
def enterStart (body : OrderBody) (booth : BoothId) (take cue : Option Nat) (p : Nat) (s : State) : State :=
  let tag := nextTag s.link
  let o : Order :=
    { body := body, tag := tag, booth := some booth, take := take, cue := cue, raisedAt := some p, reached := false }
  { s with link := { s.link with startLane := s.link.startLane ++ [o], tagCounter := tag + 1 } }

/-- Starts are withdrawn from the start lane, unsent (R150). -/
def withdrawStarts (p : Order → Bool) (s : State) : State :=
  { s with link := { s.link with startLane := s.link.startLane.filter fun o => !p o } }

/-- Stops are removed from the stop lane by a closing (R108 step 2). -/
def removeStops (p : Order → Bool) (s : State) : State :=
  { s with link := { s.link with stopLane := s.link.stopLane.filter fun o => !p o } }

/-- The order is the PUNCH-IN of a take. -/
def Order.isPunchInOf (serial : Nat) (o : Order) : Bool :=
  decide (o.body.kind = .punchIn) && decide (o.take = some serial)

/-- The order is the PUNCH-OUT of a take, with an at frame (R108 step 2). -/
def Order.isPunchOutOf (serial : Nat) (o : Order) : Bool :=
  decide (o.body.kind = .punchOut) && decide (o.take = some serial)

/-- The order is a PUNCH-OUT, PUNCH-OUT NOW or CANCEL for a take (R160). -/
def Order.isStopOf (serial : Nat) (o : Order) : Bool :=
  (decide (o.body.kind = .punchOut) || decide (o.body.kind = .punchOutNow) || decide (o.body.kind = .cancel)) &&
    decide (o.take = some serial)

/-- A take's PUNCH-IN is still in the start lane (R101, R102, R109). -/
def punchInWaits (serial : Nat) (s : State) : Bool := s.link.startLane.any (Order.isPunchInOf serial)

/-- The order is the PLAY of a booth's live entry of a cue (R106, R108). -/
def Order.isPlayOf (b : BoothId) (cue : Nat) (o : Order) : Bool :=
  decide (o.body.kind = .play) && decide (o.booth = some b) && decide (o.cue = some cue)

/-- The PLAY of a booth's live entry of a cue is still in the start lane (R106, R108). -/
def playWaits (b : BoothId) (cue : Nat) (s : State) : Bool := s.link.startLane.any (Order.isPlayOf b cue)

/-! ## The awaiting list (R154) -/

/-- The timer of a running entry starts once its transmission has ended and its named frame is reached; it runs for 8
frame periods (R154). -/
def Awaiting.arm (rate : StageRate) (a : Awaiting) : Awaiting :=
  if a.stage = .running ∧ a.sendEnded = true ∧ a.order.reached = true ∧ a.timer = .stopped then
    { a with timer := .running 16 rate }
  else a

/-- An order reported as having its named frame reached (R154). -/
def Order.markReached (p : Order → Bool) (o : Order) : Order := if p o then { o with reached := true } else o

/-- The booth reports named frames reached, for the orders that satisfy `p`, wherever they stand (R154). -/
def reportReached (p : Order → Bool) (s : State) : State :=
  { s with link := { s.link with
      stopLane := s.link.stopLane.map (Order.markReached p)
      startLane := s.link.startLane.map (Order.markReached p)
      awaiting := s.link.awaiting.map fun a =>
        Awaiting.arm s.stage.rate { a with order := a.order.markReached p } } }

/-- The awaiting entry of a tag (R145). -/
def findAwaiting (tag : Tag) (s : State) : Option Awaiting :=
  s.link.awaiting.find? fun a => decide (a.order.tag = tag)

/-- Awaiting entries of a tag are removed (R156, R157). -/
def removeAwaiting (tag : Tag) (s : State) : State :=
  { s with link := { s.link with awaiting := s.link.awaiting.filter fun a => decide (a.order.tag ≠ tag) } }

/-! ## Outstanding starts (R160) -/

/-- The take of a serial is live; an evicted record's take was terminal (R131, R160). -/
def takeIsLive (serial : Nat) (s : State) : Bool :=
  match takeStateOf serial s with
  | some st => st.isLive
  | none => false

/-- A sent start may still call for a stop (R160). -/
def stillOutstanding (s : State) (o : Outstanding) : Bool :=
  match o with
  | .punchIn _ serial => takeIsLive serial s || s.link.stopLane.any (Order.isStopOf serial)
  | .play b cue tag =>
    (s.booth b).window.any (fun e => decide (e.cueId = cue) && decide (e.startTag = some tag)) ||
      s.link.stopLane.any fun x => decide (x.body = .cancel tag)

/-- Entries of the outstanding-start list that need no further stop are removed (R160). -/
def releaseOutstanding (s : State) : State :=
  { s with link := { s.link with outstanding := s.link.outstanding.filter (stillOutstanding s) } }

/-- The end of every command: outstanding starts are released (R160) and posted frames reach the queue (R181). -/
def conclude (s : State) : State := settle (releaseOutstanding s)

/-! ## Sending (R151) -/

/-- The places of the awaiting list and of the outstanding-start list (R146). -/
def awaitingPlaces : Nat := 16

/-- The entries of the outstanding-start list at which further starts are held back (R151, R160). -/
def outstandingPlaces : Nat := 8

/-- The conditions under which the transmitter may begin (R151). -/
def mayBegin (l : RecLink) : Bool :=
  decide (l.transmitter = none) && decide (l.flow = .ready) &&
    (decide (l.awaiting.length < awaitingPlaces) || l.awaiting.any fun a => decide (a.stage = .expired))

/-- The awaiting list without its expired entry that was sent earliest (R151 step 2). -/
def supersede (as : List Awaiting) : List Awaiting :=
  match as with
  | [] => []
  | a :: rest => if a.stage = .expired then rest else a :: supersede rest

/-- The awaiting list with a place for a newly sent order (R151 steps 2 and 3). -/
def awaitingWith (o : Order) (as : List Awaiting) : List Awaiting :=
  (if as.length < awaitingPlaces then as else supersede as) ++
    [{ order := o, stage := .running, sendEnded := false, timer := .stopped }]

/-- The entry that a sent start takes in the outstanding-start list (R160). -/
def outstandingOf (o : Order) : List Outstanding :=
  match o.body, o.booth with
  | .punchIn .., some b => (o.take.map fun n => Outstanding.punchIn b n).toList
  | .play .., some b => (o.cue.map fun c => Outstanding.play b c o.tag).toList
  | _, _ => []

/-- The link begins to send its first eligible order, when the conditions hold (R151). -/
def beginLink (l : RecLink) : RecLink :=
  if mayBegin l then
    match l.stopLane with
    | o :: rest => { l with stopLane := rest, transmitter := some o, awaiting := awaitingWith o l.awaiting }
    | [] =>
      match l.startLane with
      | o :: rest =>
        if l.outstanding.length < outstandingPlaces then
          { l with startLane := rest, transmitter := some o, awaiting := awaitingWith o l.awaiting,
                   outstanding := l.outstanding ++ outstandingOf o }
        else l
      | [] => l
  else l

/-- The link begins to send, outstanding starts that need no further stop having been released (R151, R160). -/
def beginSending (s : State) : State :=
  let s := releaseOutstanding s
  { s with link := beginLink s.link }

end Sys2Proof.Machine
end

