-- ==== Sys2Proof/Machine/Window.lean ====
section
/-! DEFINITION. Machine/Window.lean: what the cue window computes from a cue: the snapshot (R89), the window events
with their dues and act-ats (R90), and the three figures of an entry (R61, R91). All of it is plain arithmetic (R7). -/

namespace Sys2Proof.Machine

/-- The record of a cue id (R55). -/
def findCue (id : Nat) (s : State) : Option Cue := s.cues.find? fun c => decide (c.fields.id = id)

/-! ## Snapshot and played take (R89) -/

/-- The snapshot of a cue under a mode, the booth settings and the stage settings as they stand (R41, R89). -/
def snapshotOf (mode : Mode) (st : BoothSettings) (stage : Stage) (c : CueFields) : Snapshot :=
  { inPos := c.inPos, outPos := c.outPos, character := c.character, tracks := c.tracks, scriptRef := c.scriptRef,
    streamer := c.streamer.getD st.streamer, beep := c.beep.getD st.beep,
    guide := if mode = .rehearse then .full else c.guide.getD st.guide,
    delay := st.delay, pre := stage.pre, post := stage.post, latency := stage.latency }

/-- The last take of a list that satisfies a test: the one with the greatest serial (R89, R127). -/
def lastTake (p : Take → Bool) (ts : List Take) : Option Take :=
  ts.foldl (fun found t => if p t then some t else found) none

/-- The take of a cue to be played in REVIEW: the newest circled take that holds a span, else the newest KEPT one
(R89). -/
def takeToPlay (cue : Nat) (s : State) : Option Take :=
  match lastTake (fun t => decide (t.cue = cue) && t.circled && t.state.holdsSpan) s.log.records with
  | some t => some t
  | none => lastTake (fun t => decide (t.cue = cue) && decide (t.state = .kept)) s.log.records

/-- The played take as the entry copies it (R89). -/
def Take.played (t : Take) : Played :=
  { serial := t.serial, number := t.number, track := t.track, start := t.plannedStart,
    stop := t.spanEnd.getD t.plannedEnd }

/-! ## Window events (R90) -/

/-- OPEN due, the planned start: in − pre handle (R90). -/
def Snapshot.openDue (v : Snapshot) : Int := (v.inPos : Int) - v.pre

/-- CLOSE due, the planned end: out + post handle (R90). -/
def Snapshot.closeDue (v : Snapshot) : Int := (v.outPos : Int) + v.post

/-- Streamer start: in − S (R90). -/
def Snapshot.streamerStart (v : Snapshot) : Int := (v.inPos : Int) - v.streamer

/-- A display event: its act-at is its due less the display delay (R90). -/
def displayEvent (v : Snapshot) (k : EventKind) (due : Int) : WinEvent :=
  { kind := k, due := due, actAt := due - v.delay, state := .pending }

/-- A recorder event: its act-at is its due less the recorder latency (R90). -/
def recorderEvent (v : Snapshot) (k : EventKind) (due : Int) : WinEvent :=
  { kind := k, due := due, actAt := due - v.latency, state := .pending }

/-- A reached event: its act-at is its due (R90). -/
def reachedEvent (k : EventKind) (due : Int) : WinEvent := { kind := k, due := due, actAt := due, state := .pending }

/-- STREAMER-ON and STREAMER-OFF, when S > 0 (R90). -/
def streamerEvents (v : Snapshot) : List WinEvent :=
  if 0 < v.streamer then [displayEvent v .streamerOn v.streamerStart, displayEvent v .streamerOff v.inPos] else []

/-- BEEP-ON k and BEEP-OFF k for k from 1 to n, with the count of the pattern (R90). -/
def beepEvents (v : Snapshot) : Nat → List WinEvent
  | 0 => []
  | k + 1 =>
    let due : Int := (v.inPos : Int) - ((v.beep.count - (k + 1) + 1) * v.beep.spacing : Nat)
    beepEvents v k ++ [displayEvent v (.beepOn (k + 1)) due, displayEvent v (.beepOff (k + 1)) (due + v.beep.length)]

/-- GUIDE-ON and GUIDE-OFF (R90). -/
def guideEvents (v : Snapshot) : List WinEvent :=
  match v.guide with
  | .none => []
  | .lead =>
    if 0 < v.streamer then [displayEvent v .guideOn v.streamerStart, displayEvent v .guideOff v.inPos] else []
  | .full => [displayEvent v .guideOn v.streamerStart, displayEvent v .guideOff v.outPos]

/-- The lamp, recorder and take events of RECORD (R90). -/
def recordEvents (v : Snapshot) : List WinEvent :=
  [displayEvent v .lampOn v.inPos, displayEvent v .lampOff v.outPos,
   recorderEvent v .punchIn v.openDue, reachedEvent .opening v.openDue,
   recorderEvent v .punchOut v.closeDue, reachedEvent .closing v.closeDue]

/-- The span start of the played take; in − pre handle stands for it when the cue has no take to play (R61). -/
def playStart (v : Snapshot) (played : Option Played) : Int :=
  match played with
  | some t => t.start
  | none => v.openDue

/-- END due, the greatest due among the entry's other events (R61, R90). -/
def endDue (mode : Mode) (v : Snapshot) (played : Option Played) : Int :=
  match mode with
  | .record => v.closeDue
  | .rehearse => v.outPos
  | .review => if 0 < v.streamer then max (v.inPos : Int) (playStart v played) else playStart v played

/-- An event put into its place in the order of act-ats, after those that act at the same position (R88). -/
def insertEvent (e : WinEvent) (es : List WinEvent) : List WinEvent :=
  match es with
  | [] => [e]
  | x :: rest => if e.actAt < x.actAt then e :: x :: rest else x :: insertEvent e rest

/-- The events of an entry, ordered by act-at (R88, R90). -/
def eventsOf (mode : Mode) (v : Snapshot) (played : Option Played) : List WinEvent :=
  let others :=
    match mode with
    | .rehearse => streamerEvents v ++ beepEvents v v.beep.count ++ guideEvents v
    | .record => streamerEvents v ++ beepEvents v v.beep.count ++ guideEvents v ++ recordEvents v
    | .review => streamerEvents v ++ [recorderEvent v .play (playStart v played)]
  (others ++ [reachedEvent .ending (endDue mode v played)]).foldl (fun es e => insertEvent e es) []

/-! ## Figures of an entry (R61, R91) -/

/-- Key act-at (R61). -/
def keyActAt (mode : Mode) (v : Snapshot) (played : Option Played) : Int :=
  match mode with
  | .record => v.openDue - v.latency
  | .review => playStart v played - v.latency
  | .rehearse => (v.inPos : Int) - v.delay

/-- First act-at, the smallest among the events (R91); the events are in the order of act-ats. -/
def firstActAt (es : List WinEvent) : Option Int := es.head?.map (·.actAt)

/-- The played take that an admission would choose now, in REVIEW alone (R61, R89). -/
def playedOf (mode : Mode) (cue : Nat) (s : State) : Option Played :=
  if mode = .review then (takeToPlay cue s).map Take.played else none

/-- The key act-at of a pass entry, from the cue record, the booth and the stage as they stand (R61). -/
def entryKey (b : BoothId) (mode : Mode) (cue : Nat) (s : State) : Option Int :=
  (findCue cue s).map fun c =>
    keyActAt mode (snapshotOf mode (s.booth b).settings s.stage c.fields) (playedOf mode cue s)

/-- The end act-at of a cue, from the booth and the stage as they stand (R61). -/
def cueEnd (b : BoothId) (mode : Mode) (c : Cue) (s : State) : Int :=
  endDue mode (snapshotOf mode (s.booth b).settings s.stage c.fields) (playedOf mode c.fields.id s)

/-! ## Streamer value and gates at admission (R92, R98) -/

/-- The streamer value at a display position, in whole-number division (R92). -/
def streamerValue (v : Snapshot) (display : Nat) : Nat :=
  (((display : Int) - v.streamerStart).toNat * 1023) / v.streamer

/-- The gates that the PASSED events of an entry leave: each gate as the last of its passed events sets it (R98).
The lamp is set on in this way only when the take is PLANNED. -/
def passedGates (planned : Bool) (es : List WinEvent) : Gates :=
  es.foldl (fun g e =>
    if e.state = .passed then
      match e.kind.gate with
      | some (gate, v) => g.put gate (if gate = .lamp then v && planned else v)
      | none => g
    else g) Gates.off

/-- Events whose act-at lies below the admission position become PASSED (R98). -/
def passBefore (p : Nat) (es : List WinEvent) : List WinEvent :=
  es.map fun e => if e.actAt < (p : Int) then { e with state := .passed } else e

end Sys2Proof.Machine
end

