-- ==== Sys2Proof/Machine/Booths.lean ====
section
/-! DEFINITION. Machine/Booths.lean: the changes of booth state and of passes that the events of a booth share:
entering a state (R85), the cut-over (R53, R75), leaving the window (R76, R106, R154), closing the window (R108, R109)
and the window's answer to a failed take (R103). -/

namespace Sys2Proof.Machine

/-! ## Pass contexts (R59, R60) -/

/-- The active pass of a booth changed by a function; an empty pass stays empty. -/
def modActive (b : BoothId) (f : Context → Context) (s : State) : State :=
  modBooth b (fun v => { v with active := v.active.map f }) s

/-- The cue ids of a pass; none when the pass is empty. -/
def passCues (c : Option Context) : List Nat :=
  match c with
  | some ctx => ctx.entries.map (·.cue)
  | none => []

/-- The cues of a list of ids changed by a function (R53). -/
def modCues (ids : List Nat) (f : Cue → Cue) (s : State) : State :=
  { s with cues := s.cues.map fun c => if ids.contains c.fields.id then f c else c }

/-- The entry of the active pass of a cue, with its entry state LIVE or WAITING (R60). -/
def setEntryLive (cue : Nat) (live : Bool) (c : Context) : Context :=
  { c with entries := c.entries.map fun e => if e.cue = cue then { e with live := live } else e }

/-- The index, from 1, of a cue's entry (R60). -/
def entryIndex (cue : Nat) (es : List Entry) : Option Nat := (es.findIdx? fun e => decide (e.cue = cue)).map (· + 1)

/-- The cursor after the entry at an index is removed (R60): beyond it, one less; on it, the entry that followed, or
end; before it, unchanged. -/
def cursorAfterRemoval (index : Nat) (left : Nat) (cursor : Option Nat) : Option Nat :=
  match cursor with
  | none => none
  | some c =>
    if index < c then some (c - 1)
    else if left < c then none
    else some c

/-- The context with a cue's entry removed (R60, R76). -/
def removeEntry (cue : Nat) (c : Context) : Context :=
  match entryIndex cue c.entries with
  | none => c
  | some i =>
    { c with
      entries := c.entries.filter fun e => decide (e.cue ≠ cue)
      cursor := cursorAfterRemoval i (c.entries.length - 1) c.cursor }

/-- The entry that the cursor names (R60). -/
def Context.atCursor (c : Context) : Option Entry :=
  match c.cursor with
  | some i => if i = 0 then none else c.entries[i - 1]?
  | none => none

/-- The cursor moved on to the next entry, or to end (R94). -/
def Context.advanceCursor (c : Context) : Context :=
  { c with cursor :=
      match c.cursor with
      | some i => if i < c.entries.length then some (i + 1) else none
      | none => none }

/-- A context as a cut-over makes it active: kept count 0, every entry WAITING with takes made 0, cursor 1 (R75). -/
def Context.fresh (c : Context) : Context :=
  { c with kept := 0, entries := c.entries.map fun e => { e with live := false, takesMade := 0 }, cursor := some 1 }

/-! ## Booth state (R85) -/

/-- A booth enters a state, and a BOOTH notice STATE is posted; that for DONE carries the kept count and the entry
count of the active pass (R85). -/
def enterState (b : BoothId) (new : BoothState) (cause : BoothCause) (s : State) : State :=
  let v := s.booth b
  let kept := if new = .done then v.active.map (·.kept) else none
  let count := if new = .done then v.active.map (·.entries.length) else none
  postNotice (.booth b) (.boothState b v.state new cause kept count) (modBooth b (fun v => { v with state := new }) s)

/-- The steps of a cut-over (R75), with the marks of R53. A booth with no staged pass is left as it is. -/
def carryOutCutover (b : BoothId) (s : State) : State :=
  let v := s.booth b
  match v.staged with
  | none => s
  | some ctx =>
    let marked := modCues (passCues v.staged) (Cue.stagedToActive b) (modCues (passCues v.active) (Cue.clearActive b) s)
    let swapped := modBooth b (fun v => { v with active := some ctx.fresh, staged := none, cutPending := false }) marked
    let noted := postNotice (.booth b) (.cutover b ctx.entries.length v.cutPending) swapped
    if v.state = .empty ∨ v.state = .done then enterState b .ready .cutover noted else noted

/-- A pending cut-over is carried out (R75). -/
def carryPending (b : BoothId) (s : State) : State := if (s.booth b).cutPending then carryOutCutover b s else s

/-- A booth leaves ROLLING or STOPPING, or enters DONE or HELD: it enters the new state, and then a pending cut-over is
carried out (R75). -/
def leaveTo (b : BoothId) (new : BoothState) (cause : BoothCause) (s : State) : State :=
  carryPending b (enterState b new cause s)

/-! ## Live entries (R88) -/

/-- The live entry of a cue. -/
def liveEntry (b : BoothId) (cue : Nat) (s : State) : Option LiveEntry :=
  (s.booth b).window.find? fun e => decide (e.cueId = cue)

/-- The live entry of a cue changed by a function. -/
def modEntry (b : BoothId) (cue : Nat) (f : LiveEntry → LiveEntry) (s : State) : State :=
  modBooth b (fun v => { v with window := v.window.map fun e => if e.cueId = cue then f e else e }) s

/-- The state of the take that an entry holds. -/
def entryTakeState (e : LiveEntry) (s : State) : Option TakeState :=
  match e.take with
  | some t => takeStateOf t.serial s
  | none => none

/-- The order was raised by the entry: its start order or its PUNCH-OUT (R88, R154). -/
def LiveEntry.owns (b : BoothId) (e : LiveEntry) (o : Order) : Bool :=
  decide (o.booth = some b) &&
    match o.body with
    | .punchIn .. => o.take.isSome && decide (o.take = e.take.map (·.serial))
    | .punchOut .. => o.take.isSome && decide (o.take = e.take.map (·.serial))
    | .play .. => decide (some o.tag = e.startTag) && decide (o.cue = some e.cueId)
    | .punchOutNow _ => false
    | .cancel _ => false
    | .haltAll => false

/-- An entry leaves its window place and returns to WAITING; the named frames of its orders are reported reached
(R106, R108 step 7, R154). -/
def leaveWindow (b : BoothId) (e : LiveEntry) (s : State) : State :=
  let freed := modBooth b (fun v => { v with
    window := v.window.filter fun x => decide (x.cueId ≠ e.cueId)
    active := v.active.map (setEntryLive e.cueId false) }) s
  reportReached (e.owns b) freed

/-- An entry leaves the active pass under ONCE: it is removed and its cue's active flag is cleared (R53, R76). -/
def removeFromPass (b : BoothId) (cue : Nat) (s : State) : State :=
  modCues [cue] (Cue.clearActive b) (modActive b (removeEntry cue) s)

/-- Whether an entry that leaves at its END is removed from the pass (R53, R76). Under ONCE in RECORD an entry whose take was
not kept stays, though R57 names a removal after such a take: the model's choice (entry 39). -/
def removedAtEnd (ctx : Context) (takeState : Option TakeState) : Bool :=
  decide (ctx.policy = .once) && (decide (ctx.mode ≠ .record) || decide (takeState = some .kept))

/-- An entry leaves the window as at its END: a PLAY still in the start lane is withdrawn, the place is freed, and the
entry returns to WAITING or is removed from the pass (R76, R106). -/
def endEntry (b : BoothId) (e : LiveEntry) (s : State) : State :=
  let unplayed :=
    match e.played with
    | some _ => withdrawStarts (Order.isPlayOf b e.cueId) s
    | none => s
  let left := leaveWindow b e unplayed
  match (s.booth b).active with
  | some ctx => if removedAtEnd ctx (entryTakeState e s) then removeFromPass b e.cueId left else left
  | none => left

/-- A removal that leaves the active pass of a ROLLING booth with no entry completes the pass (R77). -/
def completeIfEmpty (b : BoothId) (s : State) : State :=
  let v := s.booth b
  if v.state = .rolling ∧ v.active.map (·.entries) = some [] then leaveTo b .done .complete s else s

/-! ## Closing the window (R108, R109) -/

/-- What a closing does to the PLANNED take of an entry, by where its PUNCH-IN stands (R109). -/
def closePlanned (b : BoothId) (e : LiveEntry) (serial c : Nat) (raisedAt : Option Nat) (s : State) : State :=
  if punchInWaits serial s then failTake serial .broken (withdrawStarts (Order.isPunchInOf serial) s)
  else
    match e.startTag with
    | some tag => withdrawTake serial c (raiseStop (.cancel tag) (some b) (some serial) none raisedAt s)
    | none => failTake serial .broken s

/-- What a closing does to the take that an entry holds (R108 steps 2 to 5). -/
def closeTakeOf (b : BoothId) (e : LiveEntry) (c : Nat) (raisedAt : Option Nat) (s : State) : State :=
  match e.take with
  | none => s
  | some held =>
    let s := removeStops (Order.isPunchOutOf held.serial) s
    match findTake held.serial s with
    | none => s
    | some t =>
      match t.state with
      | .opened =>
        truncateTake held.serial (some c)
          (raiseStop (.punchOutNow t.track) (some b) (some held.serial) none raisedAt s)
      | .planned => closePlanned b e held.serial c raisedAt s
      | .withdrawing | .kept | .truncated | .aborted | .failed | .overwritten | .dropped => s

/-- What a closing does to the PLAY of a REVIEW entry: withdrawn from the start lane, or cancelled once sent
(R108 step 6). -/
def closePlayOf (b : BoothId) (e : LiveEntry) (raisedAt : Option Nat) (s : State) : State :=
  match e.played, e.startTag with
  | some _, some tag =>
    if playWaits b e.cueId s then withdrawStarts (Order.isPlayOf b e.cueId) s
    else raiseStop (.cancel tag) (some b) none (some e.cueId) raisedAt s
  | _, _ => s

/-- One live entry is closed against a closing position (R108). -/
def closeEntry (b : BoothId) (c : Nat) (raisedAt : Option Nat) (e : LiveEntry) (s : State) : State :=
  leaveWindow b e (closePlayOf b e raisedAt (closeTakeOf b e c raisedAt s))

/-- The window is closed: the front entry through every step first, the back entry second (R108, R198). -/
def closeWindow (b : BoothId) (c : Nat) (raisedAt : Option Nat) (s : State) : State :=
  (s.booth b).window.foldl (fun s e => closeEntry b c raisedAt e s) s

/-- The booth's last taken position, against which a host's request closes a window (R108). It stands for every booth
that has taken an announcement, so for every ROLLING and STOPPING booth (entry 20). -/
def lastTakenPos (b : BoothId) (s : State) : Nat := (s.booth b).lastTaken.getD 0

/-! ## The window's answer to a failed take (R80, R103) -/

/-- An event that serves the entry's take (R103). -/
def EventKind.servesTake (k : EventKind) : Bool :=
  match k with
  | .punchIn | .opening | .punchOut | .closing => true
  | .streamerOn | .streamerOff | .beepOn _ | .beepOff _ | .guideOn | .guideOff | .lampOn | .lampOff | .play
  | .ending => false

/-- The pending events that serve the take become VOID (R103). -/
def voidTakeEvents (es : List WinEvent) : List WinEvent :=
  es.map fun e => if e.state = .pending ∧ e.kind.servesTake = true then { e with state := .void } else e

/-- The entry of a take that failed stays LIVE: its lamp goes off and its take events become VOID (R103). -/
def takeLost (b : BoothId) (cue : Nat) (s : State) : State :=
  modEntry b cue (fun e => { e with gates := e.gates.put .lamp false, events := voidTakeEvents e.events }) s

/-- A STOPPING booth whose OPEN take has left OPEN: the entry leaves as at its END and the booth enters DONE (R80). -/
def finishStopping (b : BoothId) (e : LiveEntry) (s : State) : State :=
  leaveTo b .done .takeClosed (endEntry b e s)

/-- The start lane refuses a start, or a start is displaced: a PUNCH-IN's take becomes FAILED with QUEUE_FULL, the
entry leaves the window at once without an END, and a CUE notice QUEUE_FULL is posted (R100, R105, R148). -/
def startRefused (b : BoothId) (e : LiveEntry) (p : Nat) (s : State) : State :=
  let failed :=
    match e.take with
    | some t => failTake t.serial .queueFull s
    | none => s
  postNotice (.booth b) (.cue b e.cueId .queueFull p) (leaveWindow b e failed)

end Sys2Proof.Machine
end

