-- ==== Sys2Proof/Machine/Claims.lean ====
section
/-! DEFINITION. Machine/Claims.lean: the track allocator's claims and reclaims (R116 to R118) and the creation of a
take record with its eviction (R97, R128, R131). -/

namespace Sys2Proof.Machine

/-- The places of the span pool (R113). -/
def poolPlaces : Nat := 1024

/-- The records the take log holds (R131). -/
def logPlaces : Nat := 2048

/-- The last serial (R128). -/
def lastSerial : Nat := 4294967295

/-- What a booth asks of the track allocator (R116). -/
structure Claim where
  booth : BoothId
  cue : Nat
  start : Nat
  stop : Nat
  tracks : List Nat
  deriving DecidableEq, Repr

/-- An occupied span overlaps the wanted span on a track (R116). -/
def Span.blocks (track start stop : Nat) (x : Span) : Bool :=
  decide (x.track = track) && overlaps x.start x.stop start stop

/-- A track is free for a wanted span (R116). -/
def trackFree (spans : List Span) (start stop track : Nat) : Bool := !spans.any (Span.blocks track start stop)

/-- The first free track of the set, in set order (R116). -/
def firstFree (spans : List Span) (c : Claim) : Option Nat := c.tracks.find? (trackFree spans c.start c.stop)

/-- The pool has no free place, or the serial counter is exhausted (R116, R128). -/
def poolFull (s : State) : Bool := decide (poolPlaces ≤ s.spans.length) || decide (lastSerial < s.log.counter)

/-- A take is a reclaim candidate (R117). -/
def isCandidate (spans : List Span) (c : Claim) (t : Take) : Bool :=
  decide (t.cue = c.cue) && t.state.isClosed && !t.circled &&
    spans.any fun x => decide (x.serial = t.serial) && c.tracks.contains x.track && overlaps x.start x.stop c.start c.stop

/-- The take with the lowest take number of a list (R117). -/
def lowestNumber (ts : List Take) : Option Take :=
  ts.foldl (fun best t =>
    match best with
    | some u => if t.number < u.number then some t else best
    | none => some t) none

/-- The reclaim candidate with the lowest take number (R117). -/
def candidate (s : State) (c : Claim) : Option Take := lowestNumber (s.log.records.filter (isCandidate s.spans c))

/-- A span put into its place in ascending track and start (R113). -/
def insertSpan (x : Span) (xs : List Span) : List Span :=
  match xs with
  | [] => [x]
  | y :: rest =>
    if x.track < y.track ∨ (x.track = y.track ∧ x.start < y.start) then x :: y :: rest else y :: insertSpan x rest

/-- The records with room for one more: a full log loses its oldest terminal record (R131). -/
def evict (ts : List Take) : List Take :=
  if logPlaces ≤ ts.length then ts.eraseP (fun t => t.state.isTerminal) else ts

/-- The PLANNED record of a claim that succeeded on a track (R97, R127). -/
def plannedTake (c : Claim) (track serial number : Nat) : Take :=
  { serial := serial, cue := c.cue, number := number, booth := c.booth, track := track, plannedStart := c.start,
    plannedEnd := c.stop, spanEnd := some c.stop, recIn := none, recOut := none, state := .planned, reason := none,
    flags := .empty, circled := false, closing := none }

/-- The event of a successful claim on a track: the span is placed, the record appended, the counter, the cue's next
take and the entry's takes made incremented (R54, R60, R97, R116, R128). -/
def createTake (c : Claim) (track number : Nat) (s : State) : State :=
  let serial := s.log.counter
  let logged : State :=
    { s with
      spans := insertSpan { track := track, start := c.start, stop := c.stop, serial := serial } s.spans
      log := { s.log with records := evict s.log.records ++ [plannedTake c track serial number],
                          counter := serial + 1 } }
  modActive c.booth (fun ctx =>
      { ctx with entries := ctx.entries.map fun e => if e.cue = c.cue then { e with takesMade := e.takesMade + 1 } else e })
    (modCues [c.cue] (fun q => { q with nextTake := q.nextTake + 1 }) logged)

/-- What a claim gives: the take created, or the reason of the step-over (R97, R116). -/
inductive ClaimResult where
  | made (take : HeldTake)
  | failed (reason : StepReason)
  deriving DecidableEq, Repr

/-- The take log makes the reclaimed take OVERWRITTEN, its span released and its notice posted (R118). -/
def overwrite (serial : Nat) (s : State) : State := endTake serial .overwritten none s

/-- A claim of a booth for a cue with its next take (R97, R116 to R118). -/
def takeClaim (c : Claim) (nextTake : Nat) (s : State) : ClaimResult × State :=
  if nextTake = 100 then (.failed .takesExhausted, s)
  else if poolFull s then (.failed .spanPoolFull, s)
  else
    match firstFree s.spans c with
    | some track => (.made { serial := s.log.counter, number := nextTake }, createTake c track nextTake s)
    | none =>
      match candidate s c with
      | none => (.failed .noTrack, s)
      | some t =>
        let freed := overwrite t.serial s
        if trackFree freed.spans c.start c.stop t.track then
          (.made { serial := s.log.counter, number := nextTake }, createTake c t.track nextTake freed)
        else (.failed .noTrack, freed)

end Sys2Proof.Machine
end

