-- ==== Sys2Proof/Machine/Starts.lean ====
section
/-! DEFINITION. Machine/Starts.lean: a booth's start order at the start lane: entry, displacement and refusal
(R148, R149). -/

namespace Sys2Proof.Machine

/-- The places of the start lane (R146). -/
def startPlaces : Nat := 4

/-- The rank of a booth's starts: the priority, then the booth number; the smaller outranks (R148). -/
def rankOf (b : BoothId) (s : State) : Nat := (s.booth b).settings.priority * 8 + boothNumber b

/-- The rank of an order in the start lane; an order without a booth is never raised as a start. -/
def Order.rank (o : Order) (s : State) : Nat :=
  match o.booth with
  | some b => rankOf b s
  | none => 0

/-- The lowest-ranked order of a list in the order of raising: the last among those of the greatest rank value
(R148). -/
def lowestRanked (s : State) (os : List Order) : Option Order :=
  os.foldl (fun low o =>
    match low with
    | some l => if l.rank s ≤ o.rank s then some o else low
    | none => some o) none

/-- The start that a newcomer of a booth raised at a position displaces from a full lane, if any (R148). -/
def displaced (b : BoothId) (p : Nat) (s : State) : Option Order :=
  match lowestRanked s (s.link.startLane.filter fun o => decide (o.raisedAt = some p)) with
  | some o => if rankOf b s < o.rank s then some o else none
  | none => none

/-- The live entry of a booth that raised an order (R88). -/
def ownerEntry (b : BoothId) (o : Order) (s : State) : Option LiveEntry :=
  (s.booth b).window.find? fun e => e.owns b o

/-- A displaced start leaves the lane and its booth learns of the refusal (R148). -/
def displace (o : Order) (p : Nat) (s : State) : State :=
  let removed := withdrawStarts (fun x => decide (x.tag = o.tag)) s
  match o.booth with
  | none => removed
  | some b =>
    match ownerEntry b o removed with
    | some e => startRefused b e p removed
    | none => removed

/-- A start enters the lane and its entry holds the tag (R100, R105, R148). -/
def admitStart (b : BoothId) (e : LiveEntry) (body : OrderBody) (p : Nat) (s : State) : State :=
  let tag := nextTag s.link
  modEntry b e.cueId (fun x => { x with startTag := some tag })
    (enterStart body b (e.take.map (·.serial)) (if body.kind = .play then some e.cueId else none) p s)

/-- A booth raises a start order at a position (R148). -/
def raiseStart (b : BoothId) (e : LiveEntry) (body : OrderBody) (p : Nat) (s : State) : State :=
  if s.link.startLane.length < startPlaces then admitStart b e body p s
  else
    match displaced b p s with
    | some o => admitStart b e body p (displace o p s)
    | none => startRefused b e p s

end Sys2Proof.Machine
end

