-- ==== Sys2Proof/Machine/Events.lean ====
section
/-! DEFINITION. Machine/Events.lean: what a booth does at each window event (R92, R100 to R106), the take limit (R78),
and the order in which events are taken (R93). -/

namespace Sys2Proof.Machine

/-- An event of a live entry's list put into a state. -/
def putEvent (k : EventKind) (st : EventState) (es : List WinEvent) : List WinEvent :=
  es.map fun e => if e.kind = k then { e with state := st } else e

/-- An event of an entry becomes TAKEN or VOID (R91). -/
def markEvent (b : BoothId) (cue : Nat) (k : EventKind) (st : EventState) (s : State) : State :=
  modEntry b cue (fun e => { e with events := putEvent k st e.events }) s

/-- An entry's gate is set (R92). -/
def setGate (b : BoothId) (cue : Nat) (g : Gate) (v : Bool) (s : State) : State :=
  modEntry b cue (fun e => { e with gates := e.gates.put g v }) s

/-- The take is PLANNED or OPEN (R92). -/
def takeRuns (st : Option TakeState) : Bool := decide (st = some .planned) || decide (st = some .opened)

/-- A display event sets its gate; LAMP-ON only with the take PLANNED or OPEN (R92). -/
def displayTaken (b : BoothId) (e : LiveEntry) (g : Gate) (v : Bool) (s : State) : State :=
  setGate b e.cueId g (if g = .lamp then v && takeRuns (entryTakeState e s) else v) s

/-- A take whose PUNCH-IN is still in the start lane fails with LATE_IN, the PUNCH-IN withdrawn (R101, R102, R103). -/
def lateIn (b : BoothId) (e : LiveEntry) (serial : Nat) (s : State) : State :=
  takeLost b e.cueId (failTake serial .lateIn (withdrawStarts (Order.isPunchInOf serial) s))

/-- PUNCH-IN (R100): at a LOCKED advance the order is raised, at a FREEWHEEL advance the take fails. -/
def punchInTaken (b : BoothId) (e : LiveEntry) (p : Nat) (locked : Bool) (s : State) : State :=
  match e.take with
  | none => markEvent b e.cueId .punchIn .void s
  | some held =>
    match findTake held.serial s with
    | none => markEvent b e.cueId .punchIn .void s
    | some t =>
      if t.state = .planned then
        let marked := markEvent b e.cueId .punchIn .taken s
        if locked then raiseStart b e (.punchIn t.track t.plannedStart) p marked
        else takeLost b e.cueId (failTake held.serial .freewheel marked)
      else markEvent b e.cueId .punchIn .void s

/-- OPEN (R101). -/
def openTaken (b : BoothId) (e : LiveEntry) (s : State) : State :=
  match e.take with
  | none => markEvent b e.cueId .opening .void s
  | some held =>
    if takeStateOf held.serial s = some .planned then
      let marked := markEvent b e.cueId .opening .taken s
      if punchInWaits held.serial s then lateIn b e held.serial marked else openTake held.serial marked
    else markEvent b e.cueId .opening .void s

/-- A PUNCH-OUT order is raised for a take, and the entry holds its tag (R102). -/
def raisePunchOut (b : BoothId) (e : LiveEntry) (t : Take) (p : Nat) (s : State) : State :=
  let tag := nextTag s.link
  modEntry b e.cueId (fun x => { x with stopTag := some tag })
    (raiseStop (.punchOut t.track t.plannedEnd) (some b) (some t.serial) none (some p) s)

/-- PUNCH-OUT (R102). -/
def punchOutTaken (b : BoothId) (e : LiveEntry) (p : Nat) (s : State) : State :=
  match e.take with
  | none => markEvent b e.cueId .punchOut .void s
  | some held =>
    match findTake held.serial s with
    | none => markEvent b e.cueId .punchOut .void s
    | some t =>
      if t.state = .opened then raisePunchOut b e t p (markEvent b e.cueId .punchOut .taken s)
      else if t.state = .planned then
        let marked := markEvent b e.cueId .punchOut .taken s
        if punchInWaits held.serial s then lateIn b e held.serial marked else raisePunchOut b e t p marked
      else markEvent b e.cueId .punchOut .void s

/-- PLAY (R105). -/
def playTaken (b : BoothId) (e : LiveEntry) (p : Nat) (s : State) : State :=
  match e.played with
  | none => markEvent b e.cueId .play .void s
  | some t => raiseStart b e (.play t.track t.start t.stop) p (markEvent b e.cueId .play .taken s)

/-- The kept count after one more KEPT take (R60). -/
def keptPlus (n : Nat) : Nat := if n < 99 then n + 1 else n

/-- The pass is complete by its take limit: the entry leaves as at its END, the rest of the window is closed against
the position of the CLOSE, and the booth enters DONE (R78). -/
def limitReached (b : BoothId) (e : LiveEntry) (p : Nat) (s : State) : State :=
  leaveTo b .done .limit (closeWindow b p (some p) (endEntry b e s))

/-- What a booth does after a CLOSE has made a take KEPT (R78, R80, R104). -/
def afterClose (b : BoothId) (e : LiveEntry) (p : Nat) (s : State) : State :=
  match (s.booth b).state, (s.booth b).active with
  | .stopping, _ => finishStopping b e s
  | .rolling, some ctx => if ctx.limit ≠ 0 ∧ ctx.kept = ctx.limit then limitReached b e p s else s
  | _, _ => s

/-- CLOSE (R104). -/
def closeTaken (b : BoothId) (e : LiveEntry) (p : Nat) (s : State) : State :=
  match e.take with
  | none => markEvent b e.cueId .closing .void s
  | some held =>
    if takeStateOf held.serial s = some .opened then
      let kept := keepTake held.serial (markEvent b e.cueId .closing .taken s)
      afterClose b e p (modActive b (fun ctx => { ctx with kept := keptPlus ctx.kept }) kept)
    else markEvent b e.cueId .closing .void s

/-- END: the entry leaves the window, and a pass left with no entry is complete (R77, R106). -/
def endTaken (b : BoothId) (e : LiveEntry) (s : State) : State := completeIfEmpty b (endEntry b e s)

/-- An event of a live entry is taken (R92, R100 to R106). -/
def eventTaken (b : BoothId) (e : LiveEntry) (k : EventKind) (p : Nat) (locked : Bool) (s : State) : State :=
  match k with
  | .streamerOn => displayTaken b e .streamer true (markEvent b e.cueId k .taken s)
  | .streamerOff => displayTaken b e .streamer false (markEvent b e.cueId k .taken s)
  | .beepOn _ => displayTaken b e .beep true (markEvent b e.cueId k .taken s)
  | .beepOff _ => displayTaken b e .beep false (markEvent b e.cueId k .taken s)
  | .guideOn => displayTaken b e .guide true (markEvent b e.cueId k .taken s)
  | .guideOff => displayTaken b e .guide false (markEvent b e.cueId k .taken s)
  | .lampOn => displayTaken b e .lamp true (markEvent b e.cueId k .taken s)
  | .lampOff => displayTaken b e .lamp false (markEvent b e.cueId k .taken s)
  | .punchIn => punchInTaken b e p locked s
  | .opening => openTaken b e s
  | .punchOut => punchOutTaken b e p s
  | .closing => closeTaken b e p s
  | .play => playTaken b e p s
  | .ending => endTaken b e s

/-- The entry has the event pending with its act-at at the position (R91). -/
def LiveEntry.hasDue (p : Nat) (k : EventKind) (e : LiveEntry) : Bool :=
  e.events.any fun x => decide (x.kind = k) && decide (x.state = .pending) && decide (x.actAt = (p : Int))

/-- The event of a cue's live entry is taken if it still stands PENDING there (R91, R103, R108). -/
def takeEvent (b : BoothId) (p : Nat) (locked : Bool) (cue : Nat) (k : EventKind) (s : State) : State :=
  match liveEntry b cue s with
  | some e => if e.hasDue p k then eventTaken b e k p locked s else s
  | none => s

/-- The events of an entry pending at a position, of one class (R93). -/
def LiveEntry.dueOfClass (p : Nat) (c : Nat) (e : LiveEntry) : List (Nat × EventKind) :=
  (e.events.filter fun x => decide (x.state = .pending) && decide (x.actAt = (p : Int)) && decide (x.kind.cls = c)).map
    fun x => (e.cueId, x.kind)

/-- The events of a window's entries pending at a position: by class, and the front entry's first in each class
(R93). -/
def dueEvents (p : Nat) (es : List LiveEntry) : List (Nat × EventKind) :=
  [0, 1, 2, 3, 4, 5, 6].flatMap fun c => es.flatMap (LiveEntry.dueOfClass p c)

end Sys2Proof.Machine
end

