-- ==== Sys2Proof/Machine/Lines.lean ====
section
/-! DEFINITION. Machine/Lines.lean: the booth lines: the content of a booth frame (R171, R172), its transmission
(R169), and the NO_SIGNAL timer (R170). -/

namespace Sys2Proof.Machine

/-- The take number that a frame shows for an entry (R172). -/
def LiveEntry.takeNumber (e : LiveEntry) : Option Nat :=
  match e.take with
  | some t => some t.number
  | none => e.played.map (·.number)

/-- The countdown of a front entry at a display position as a plain number (R172). -/
def countdown (inPos display : Nat) : Option Nat := if display < inPos then some (min (inPos - display) 255) else none

/-- The streamer that a frame shows for an entry at a display position (R92, R172). -/
def LiveEntry.shownStreamer (e : LiveEntry) (display : Nat) : Option Nat :=
  if e.gates.streamer then some (streamerValue e.snap display) else none

/-- A booth frame's content, built from the booth controller and the chase unit as they stand, for a position or for
none (R170 to R172). -/
def frameContent (b : BoothId) (pos : Option Nat) (s : State) : FrameContent :=
  let v := s.booth b
  let plain := pos.map (· + v.settings.delay)
  let display := plain.map (· % s.stage.rate.perDay)
  let front := v.window.head?
  { picture := s.chase.state, boothState := v.state, display := display,
    reel := display.bind (reelAt s.reels),
    frontCue := front.map (·.cueId), character := front.map (·.snap.character),
    scriptRef := front.bind (·.snap.scriptRef),
    streamer := front.bind fun e => plain.bind e.shownStreamer,
    beep := v.window.any (·.gates.beep), lamp := v.window.any (·.gates.lamp), guide := v.window.any (·.gates.guide),
    countdown := front.bind fun e => plain.bind (countdown e.snap.inPos),
    takeNumber := front.bind LiveEntry.takeNumber }

/-- The line begins to send a frame (R169). -/
def Line.send (c : FrameContent) (l : Line) : Line :=
  { l with last := some { sequence := l.seq, content := c }, waiting := none, seq := l.seq + 1, sending := true }

/-- A frame has fallen due: it is begun, or becomes the waiting frame (R169). -/
def Line.offer (c : FrameContent) (l : Line) : Line := if l.sending then { l with waiting := some c } else l.send c

/-- The transmission of a frame ends; a waiting frame is begun (R169). An idle line is left as it is (entry 22). -/
def Line.sent (l : Line) : Line :=
  if l.sending then
    match l.waiting with
    | some c => l.send c
    | none => { l with sending := false }
  else l

/-- A booth line changed by a function. -/
def modLine (b : BoothId) (f : Line → Line) (s : State) : State :=
  { s with lines := s.lines.set b (f (s.lines.get b)) }

/-- A booth frame falls due on a line (R170). -/
def frameDue (b : BoothId) (pos : Option Nat) (s : State) : State := modLine b (Line.offer (frameContent b pos s)) s

/-- The NO_SIGNAL timer as it is started: one second of frame periods (R9, R170). -/
def noSignalTimer (rate : StageRate) : Timer := .running (2 * rate.fps) rate

/-- The NO_SIGNAL timer of every line is set (R170). -/
def setLineTimers (t : Timer) (s : State) : State :=
  { s with lines := s.lines.map fun l => { l with timer := t } }

/-- Expiry of a line's NO_SIGNAL timer: a NO_SIGNAL frame falls due and the timer is restarted (R170). A stopped timer
does not expire (entry 22). -/
def noSignalExpiry (b : BoothId) (s : State) : State :=
  match (s.lines.get b).timer with
  | .stopped => s
  | .running _ _ => modLine b (fun l => { l with timer := noSignalTimer s.stage.rate }) (frameDue b none s)

/-- NO_SIGNAL_TIMER_EXPIRY (R170). -/
def execNoSignalTimerExpiry (line : BoothId) (s : State) : Host.Outcome State Fault Refusal :=
  .next (noSignalExpiry line s)

/-- BOOTH_FRAME_SENT (R169). -/
def execBoothFrameSent (line : BoothId) (s : State) : Host.Outcome State Fault Refusal :=
  .next (modLine line Line.sent s)

end Sys2Proof.Machine
end

