-- ==== Sys2Proof/Machine/Advance.lean ====
section
/-! DEFINITION. Machine/Advance.lean: how the booth controllers and lines take one announcement of the chase unit
(R69 to R72, R93 to R99): each booth as a list of pieces of work, the pieces of the four booths and of the link's
transmitter interleaved as a free value has it (R119, R147, R149, R150; entry 2). -/

namespace Sys2Proof.Machine

/-- An announcement of the chase unit (R31, R32): a roll start stands as a LOCKED advance. -/
inductive Announcement where
  | advance (p : Nat) (locked : Bool)
  | rollBreak (last : Nat)
  deriving DecidableEq, Repr

/-- A piece of a booth's work on an announcement. -/
inductive Task where
  | takeAdvance (p : Nat) (locked : Bool)
  | takeBreak (last : Nat)
  | event (p : Nat) (locked : Bool) (cue : Nat) (kind : EventKind)
  | admission (p : Nat) (locked : Bool)
  | report (p : Nat)
  | runOut (p : Nat)
  | close (last : Nat) (cue : Nat)
  | leaveRoll
  | frame (pos : Option Nat)
  deriving DecidableEq, Repr

/-! ## Admission (R94 to R99) -/

/-- A step-over: a CUE notice is posted and the cursor moves on (R94, R99). -/
def stepOver (b : BoothId) (cue : Nat) (r : StepReason) (p : Nat) (s : State) : State :=
  modActive b Context.advanceCursor (postNotice (.booth b) (.cue b cue r p) s)

/-- A live entry put into its place, the front entry first (R88). -/
def insertEntry (e : LiveEntry) (es : List LiveEntry) : List LiveEntry :=
  match es with
  | [] => [e]
  | x :: rest => if e.snap.inPos < x.snap.inPos then e :: x :: rest else x :: insertEntry e rest

/-- The live entry of an admission at a position (R98). -/
def admittedEntry (cue : Nat) (mode : Mode) (v : Snapshot) (played : Option Played) (take : Option HeldTake) (p : Nat) :
    LiveEntry :=
  let events := passBefore p (eventsOf mode v played)
  { cueId := cue, snap := v, take := take, played := played, events := events,
    gates := passedGates (decide (mode = .record)) events, startTag := none, stopTag := none }

/-- The entry takes a place and becomes LIVE, and the cursor moves on (R94, R98). -/
def placeEntry (b : BoothId) (e : LiveEntry) (s : State) : State :=
  modActive b (fun ctx => (setEntryLive e.cueId true ctx).advanceCursor)
    (modBooth b (fun v => { v with window := insertEntry e v.window }) s)

/-- The other place holds an entry whose CLOSE due is greater than this entry's OPEN due (R95 check 3). -/
def clashes (v : Snapshot) (window : List LiveEntry) : Bool :=
  window.any fun e => decide (v.openDue < e.snap.closeDue)

/-- The claim that an admission makes (R97). -/
def claimOf (b : BoothId) (cue : Nat) (v : Snapshot) : Claim :=
  { booth := b, cue := cue, start := v.openDue.toNat, stop := v.closeDue.toNat, tracks := v.tracks }

/-- The pieces of work that follow an admission: the entry's own events at the position, then the next entry
(R94, R98). -/
def afterAdmission (e : LiveEntry) (p : Nat) (locked : Bool) : List Task :=
  (dueEvents p [e]).map (fun x => Task.event p locked x.1 x.2) ++ [.admission p locked]

/-- An entry that passed the checks is admitted, in RECORD with its claim (R97, R98). -/
def admitEntry (b : BoothId) (q : Cue) (mode : Mode) (v : Snapshot) (played : Option Played) (p : Nat) (locked : Bool)
    (s : State) : List Task × State :=
  match mode with
  | .record =>
    match takeClaim (claimOf b q.fields.id v) q.nextTake s with
    | (.failed r, s) => ([.admission p locked], stepOver b q.fields.id r p s)
    | (.made take, s) =>
      let e := admittedEntry q.fields.id mode v played (some take) p
      (afterAdmission e p locked, placeEntry b e s)
  | .rehearse | .review =>
    let e := admittedEntry q.fields.id mode v played none p
    (afterAdmission e p locked, placeEntry b e s)

/-- The events have begun by a position: their first act-at is the position or less (R95 check 4). -/
def begun (es : List WinEvent) (p : Nat) : Bool :=
  match firstActAt es with
  | some a => decide (a ≤ (p : Int))
  | none => false

/-- The checks on the cursor's entry with a place free (R95). -/
def considerFree (b : BoothId) (q : Cue) (ctx : Context) (p : Nat) (locked : Bool) (s : State) : List Task × State :=
  let v := snapshotOf ctx.mode (s.booth b).settings s.stage q.fields
  let played := playedOf ctx.mode q.fields.id s
  if ctx.mode = .review ∧ played = none then ([.admission p locked], stepOver b q.fields.id .noTake p s)
  else if keyActAt ctx.mode v played < (p : Int) then ([.admission p locked], stepOver b q.fields.id .late p s)
  else if ctx.mode = .record ∧ clashes v (s.booth b).window = true then
    ([.admission p locked], stepOver b q.fields.id .clash p s)
  else if begun (eventsOf ctx.mode v played) p then admitEntry b q ctx.mode v played p locked s
  else ([], s)

/-- The check on the cursor's entry with both places held (R96). -/
def considerHeld (b : BoothId) (q : Cue) (ctx : Context) (p : Nat) (locked : Bool) (s : State) : List Task × State :=
  match entryKey b ctx.mode q.fields.id s with
  | some key =>
    if key < (p : Int) then ([.admission p locked], stepOver b q.fields.id .crowded p s) else ([], s)
  | none => ([], s)

/-- The places of a cue window (R88). -/
def windowPlaces : Nat := 2

/-- The booth considers the entry named by the cursor (R94). The record of a pass entry is always held (R56). -/
def consider (b : BoothId) (p : Nat) (locked : Bool) (s : State) : List Task × State :=
  let v := s.booth b
  match v.state, v.active with
  | .rolling, some ctx =>
    match ctx.atCursor with
    | none => ([], s)
    | some entry =>
      match findCue entry.cue s with
      | none => ([], s)
      | some q =>
        if v.window.length < windowPlaces then considerFree b q ctx p locked s else considerHeld b q ctx p locked s
  | _, _ => ([], s)

/-! ## Taking an announcement (R69 to R72, R93) -/

/-- The cursor as it is placed at a position: the first entry whose key act-at is the position or more (R70). -/
def placedCursor (b : BoothId) (ctx : Context) (p : Nat) (s : State) : Option Nat :=
  (ctx.entries.findIdx? fun e =>
    match entryKey b ctx.mode e.cue s with
    | some key => decide ((p : Int) ≤ key)
    | none => false).map (· + 1)

/-- The pieces of window work at a position (R93, R154). -/
def windowWork (b : BoothId) (p : Nat) (locked : Bool) (s : State) : List Task :=
  (dueEvents p (s.booth b).window).map (fun x => Task.event p locked x.1 x.2) ++ [.admission p locked, .report p, .runOut p]

/-- A READY booth places its cursor, and rolls when it has work before its reach end (R70). -/
def readyAdvance (b : BoothId) (p : Nat) (locked : Bool) (s : State) : List Task × State :=
  match (s.booth b).active with
  | none => ([], s)
  | some ctx =>
    let cursor := placedCursor b ctx p s
    let placed := modActive b (fun ctx => { ctx with cursor := cursor }) s
    if ctx.entries ≠ [] ∧ cursor ≠ none ∧ (p : Int) < ctx.reachEnd then
      let rolling := enterState b .rolling .roll placed
      (windowWork b p locked rolling, rolling)
    else ([], placed)

/-- A booth takes an advance in the state it is in (R69). That the position becomes its last taken one in a state without
action too is the model's choice (entry 20). -/
def boothAdvance (b : BoothId) (p : Nat) (locked : Bool) (s : State) : List Task × State :=
  let s := modBooth b (fun v => { v with lastTaken := some p }) s
  match (s.booth b).state with
  | .ready => if locked then readyAdvance b p locked s else ([], s)
  | .rolling => (windowWork b p locked s, s)
  | .stopping => (windowWork b p locked s, s)
  | .empty => ([], s)
  | .held => ([], s)
  | .done => ([], s)

/-- A booth takes a roll break in the state it is in (R69, R72). -/
def boothBreak (b : BoothId) (last : Nat) (s : State) : List Task :=
  match (s.booth b).state with
  | .rolling => (s.booth b).window.map (fun e => Task.close last e.cueId) ++ [.leaveRoll]
  | .stopping => (s.booth b).window.map (fun e => Task.close last e.cueId) ++ [.leaveRoll]
  | .empty => []
  | .ready => []
  | .held => []
  | .done => []

/-- An entry is closed by a roll break (R72, R108). -/
def breakClose (b : BoothId) (last : Nat) (cue : Nat) (s : State) : State :=
  match liveEntry b cue s with
  | some e => closeEntry b last none e s
  | none => s

/-- A booth leaves the roll at a roll break: READY from ROLLING, DONE from STOPPING (R72). -/
def leaveRoll (b : BoothId) (s : State) : State :=
  match (s.booth b).state with
  | .rolling => leaveTo b .ready .broken s
  | .stopping => leaveTo b .done .broken s
  | .empty => s
  | .ready => s
  | .held => s
  | .done => s

/-- The named frame of an order of a live entry is reached by an advance (R154). -/
def reachedBy (b : BoothId) (p : Nat) (es : List LiveEntry) (o : Order) : Bool :=
  decide (o.body.named = some p) && es.any fun e => e.owns b o

/-- The run-out check (R71). -/
def runOut (b : BoothId) (p : Nat) (s : State) : State :=
  let v := s.booth b
  match v.state, v.active with
  | .rolling, some ctx =>
    if ctx.reachEnd ≤ (p : Int) ∧ v.window = [] ∧ ctx.entries ≠ [] then leaveTo b .ready .runOut s else s
  | _, _ => s

/-- One piece of a booth's work: what it changes, and the pieces it calls for next. -/
def runTask (b : BoothId) (t : Task) (s : State) : List Task × State :=
  match t with
  | .takeAdvance p locked => boothAdvance b p locked s
  | .takeBreak last => (boothBreak b last s, s)
  | .event p locked cue kind => ([], takeEvent b p locked cue kind s)
  | .admission p locked => consider b p locked s
  | .report p => ([], reportReached (reachedBy b p (s.booth b).window) s)
  | .runOut p => ([], runOut b p s)
  | .close last cue => ([], breakClose b last cue s)
  | .leaveRoll => ([], leaveRoll b s)
  | .frame pos => ([], frameDue b pos s)

/-- A bound on the pieces of work of one booth on one announcement: events of two live entries, and for each of 128
entries an admission with its events (R59, R90, R94). -/
def workBound : Nat := 4096

/-- A booth's remaining pieces of work, one after another. -/
def finishWork (b : BoothId) : Nat → List Task → State → State
  | 0, _, s => s
  | _ + 1, [], s => s
  | n + 1, t :: rest, s =>
    let r := runTask b t s
    finishWork b n (r.1 ++ rest) r.2

/-- The booths' pieces of work interleaved as a schedule picks them, the link's transmitter among them, and what the
schedule leaves, booth after booth (R119, R147, R149, R150; entry 2). -/
def interleave (sched : List Agent) (work : Quad (List Task)) (s : State) : State :=
  match sched with
  | [] =>
    finishWork .bc4 workBound work.q4
      (finishWork .bc3 workBound work.q3 (finishWork .bc2 workBound work.q2 (finishWork .bc1 workBound work.q1 s)))
  | .link :: rest => interleave rest work (beginSending s)
  | .booth b :: rest =>
    match work.get b with
    | [] => interleave rest work s
    | t :: later =>
      let r := runTask b t s
      interleave rest (work.set b (r.1 ++ later)) r.2

/-- The booth may do more on the announcement than place its cursor. -/
def mayAct (a : Announcement) (v : Booth) : Bool :=
  match v.state with
  | .rolling => true
  | .stopping => true
  | .ready =>
    match a with
    | .advance _ locked => locked
    | .rollBreak _ => false
  | .empty => false
  | .held => false
  | .done => false

/-- The count of the booths that may act on an announcement. -/
def acting (a : Announcement) (s : State) : Nat := (s.booths.toList.filter (mayAct a)).length

/-- The order of work is open: two booths act, or one acts while the link could begin to send (R119, R147, R149). -/
def orderOpen (a : Announcement) (s : State) : Bool :=
  decide (2 ≤ acting a s) ||
    (decide (1 ≤ acting a s) && decide (s.link.flow = .ready) && decide (s.link.transmitter = none))

/-- The first piece of work of every booth on an announcement. -/
def firstTask (a : Announcement) : Task :=
  match a with
  | .advance p locked => .takeAdvance p locked
  | .rollBreak last => .takeBreak last

/-- What every booth and its line have to do: the announcement, then the frame that falls due with it (R31, R170). -/
def workOf (said : Option Announcement) (frame : Option (Option Nat)) : List Task :=
  (said.map firstTask).toList ++ (frame.map Task.frame).toList

/-- The booth controllers and the booth lines take what the chase unit hands them (R31, R32, R170). -/
def handOut (said : Option Announcement) (frame : Option (Option Nat)) (s : State) : State :=
  let work := workOf said frame
  let all : Quad (List Task) := ⟨work, work, work, work⟩
  match said with
  | some a =>
    if orderOpen a s then interleave (Config.workSchedule s.free) all { s with free := s.free + 1 }
    else interleave [] all s
  | none => interleave [] all s

end Sys2Proof.Machine
end

