-- ==== Sys2Proof/Machine/Chase.lean ====
section
/-! DEFINITION. Machine/Chase.lean: the chase unit (chapter "Chasing picture"): the check of a position word (R18), the
transitions of the six chase states (R21 to R30), and what each hands to the booths and lines (R31 to R33, R170). -/

namespace Sys2Proof.Machine

/-- What one event of the chase unit does: its new state, the announcement it makes, the frame that falls due on every
line, and the cause of a roll break. -/
structure ChaseOut where
  chase : Chase
  said : Option Announcement
  frame : Option (Option Nat)
  cause : Option BreakCause
  deriving DecidableEq, Repr

/-! ## Timers (R20) -/

/-- The absence timer in ACQUIRING, PARKED and WINDING: 3 frame periods (R20). -/
def absenceLong (rate : StageRate) : Timer := .running 6 rate

/-- The absence timer in LOCKED: 1.5 frame periods (R20). -/
def absenceLocked (rate : StageRate) : Timer := .running 3 rate

/-- The freewheel timer: 1 frame period (R20). -/
def freewheelTimer (rate : StageRate) : Timer := .running 2 rate

/-! ## The current position (R19) -/

/-- The current position: the freewheel count in FREEWHEEL, the last position otherwise (R19). -/
def Chase.current (c : Chase) : Option Nat := if c.state = .freewheel then c.fwCount else c.lastPos

/-- A position continues from another: it is the one that follows it (R22). -/
def continuesFrom (rate : StageRate) (q : Option Nat) (p : Nat) : Bool :=
  match q with
  | some q => decide (p = nextPos rate q)
  | none => false

/-! ## Words (R21 to R30) -/

/-- A valid word that leaves the unit in ACQUIRING, PARKED or WINDING (R21, R23, R24, R26, R29, R30). -/
def Chase.settleWord (rate : StageRate) (st : ChaseState) (run p : Nat) (c : Chase) : Chase :=
  { c with state := st, lastPos := some p, runCount := run, fwCount := none, fwAdvances := 0,
           absence := absenceLong rate, fwTimer := .stopped }

/-- A valid word that leaves the unit in LOCKED (R23, R25, R29). -/
def Chase.lockWord (rate : StageRate) (p : Nat) (c : Chase) : Chase :=
  { c with state := .locked, lastPos := some p, fwCount := none, fwAdvances := 0, absence := absenceLocked rate,
           fwTimer := .stopped }

/-- A word of a motion begins again outside a roll: ACQUIRING with run count 1, PARKED or WINDING with run count 0
(R21, R24, R26, R29, R30). -/
def Chase.restWord (rate : StageRate) (m : Motion) (p : Nat) (c : Chase) : Chase :=
  match m with
  | .play => c.settleWord rate .acquiring 1 p
  | .park => c.settleWord rate .parked 0 p
  | .wind => c.settleWord rate .winding 0 p

/-- The cause of a roll break that a word makes (R26, R29). -/
def breakCauseOf (m : Motion) : BreakCause :=
  match m with
  | .play => .relocate
  | .park => .park
  | .wind => .wind

/-- A roll break carries the last advanced position (R32). -/
def breakOf (c : Chase) : Announcement := .rollBreak (c.lastAdvanced.getD 0)

/-- A word outside a roll: the unit settles and a frame falls due at the word's position (R21, R24, R30, R170). -/
def restOut (rate : StageRate) (m : Motion) (p : Nat) (c : Chase) : ChaseOut :=
  { chase := c.restWord rate m p, said := none, frame := some (some p), cause := none }

/-- A word that breaks a roll (R26, R29). -/
def breakOut (rate : StageRate) (m : Motion) (p : Nat) (c : Chase) : ChaseOut :=
  { chase := c.restWord rate m p, said := some (breakOf c), frame := some (some p), cause := some (breakCauseOf m) }

/-- A continuing word in ACQUIRING (R23). -/
def acquireOut (stage : Stage) (p : Nat) (c : Chase) : ChaseOut :=
  if c.runCount + 1 < stage.lockCount then
    { chase := c.settleWord stage.rate .acquiring (c.runCount + 1) p, said := none, frame := some (some p), cause := none }
  else
    { chase := { c.lockWord stage.rate p with runCount := c.runCount + 1, lastAdvanced := some p },
      said := some (.advance p true), frame := some (some p), cause := none }

/-- An advance by a word, of kind LOCKED (R25, R29). -/
def advanceOut (rate : StageRate) (p : Nat) (c : Chase) : ChaseOut :=
  { chase := { c.lockWord rate p with lastAdvanced := some p }, said := some (.advance p true), frame := some (some p),
    cause := none }

/-- A PLAY word at the freewheel count: back to LOCKED without an advance (R29). -/
def rejoinOut (rate : StageRate) (p : Nat) (c : Chase) : ChaseOut :=
  { chase := c.lockWord rate p, said := none, frame := none, cause := none }

/-- A valid word of a motion at a position is taken in the chase state (R21 to R30). -/
def wordOut (stage : Stage) (m : Motion) (p : Nat) (c : Chase) : ChaseOut :=
  match c.state with
  | .noSignal => restOut stage.rate m p c
  | .parked => restOut stage.rate m p c
  | .winding => restOut stage.rate m p c
  | .acquiring =>
    if m = .play ∧ continuesFrom stage.rate c.lastPos p = true then acquireOut stage p c else restOut stage.rate m p c
  | .locked =>
    if m = .play ∧ continuesFrom stage.rate c.lastPos p = true then advanceOut stage.rate p c
    else breakOut stage.rate m p c
  | .freewheel =>
    if m = .play ∧ c.fwCount = some p then rejoinOut stage.rate p c
    else if m = .play ∧ continuesFrom stage.rate c.fwCount p = true then advanceOut stage.rate p c
    else breakOut stage.rate m p c

/-! ## Expiries (R24, R27, R28, R30) -/

/-- The unit enters NO_SIGNAL, its last position kept (R24, R28, R30). -/
def Chase.loseSignal (c : Chase) : Chase :=
  { c with state := .noSignal, runCount := 0, fwCount := none, fwAdvances := 0, absence := .stopped,
           fwTimer := .stopped }

/-- A freewheel advance to a count, the given number of advances made (R27, R28). -/
def freewheelOut (rate : StageRate) (count advances : Nat) (c : Chase) : ChaseOut :=
  { chase := { c with state := .freewheel, fwCount := some count, fwAdvances := advances, lastAdvanced := some count,
                      absence := .stopped, fwTimer := freewheelTimer rate },
    said := some (.advance count false), frame := some (some count), cause := none }

/-- Nothing happens. -/
def stillOut (c : Chase) : ChaseOut := { chase := c, said := none, frame := none, cause := none }

/-- Expiry of the absence timer (R24, R27, R30). In NO_SIGNAL and FREEWHEEL it is stopped (R20). -/
def absenceOut (stage : Stage) (c : Chase) : ChaseOut :=
  match c.state with
  | .acquiring => { chase := c.loseSignal, said := none, frame := some none, cause := none }
  | .parked => { chase := c.loseSignal, said := none, frame := some none, cause := none }
  | .winding => { chase := c.loseSignal, said := none, frame := some none, cause := none }
  | .locked => freewheelOut stage.rate (nextPos stage.rate (c.lastPos.getD 0)) 1 c
  | .noSignal => stillOut c
  | .freewheel => stillOut c

/-- Expiry of the freewheel timer (R28): below the limit a freewheel advance, at the limit a roll break. -/
def freewheelExpiryOut (stage : Stage) (c : Chase) : ChaseOut :=
  if c.fwAdvances < stage.fwLimit then
    freewheelOut stage.rate (nextPos stage.rate (c.fwCount.getD 0)) (c.fwAdvances + 1) c
  else { chase := c.loseSignal, said := some (breakOf c), frame := some none, cause := some .signalLost }

/-- A change of the stage rate (R36). -/
def rateChangeOut (c : Chase) : ChaseOut :=
  let rolling := decide (c.state = .locked) || decide (c.state = .freewheel)
  { chase := .reset, said := if rolling then some (breakOf c) else none, frame := some none,
    cause := if rolling then some .stage else none }

/-! ## Carrying out (R31 to R33, R170) -/

/-- The CHASE notice of a change of state (R33). -/
def chaseNotice (old : Chase) (o : ChaseOut) (s : State) : State :=
  if o.chase.state = old.state then s
  else postNotice .chase (.chase old.state o.chase.state o.chase.current o.cause) s

/-- The NO_SIGNAL timers: started by an entry to NO_SIGNAL, stopped when the unit leaves it (R170). -/
def lineTimers (old : Chase) (o : ChaseOut) (s : State) : State :=
  if o.chase.state = .noSignal then
    if o.frame = some none then setLineTimers (noSignalTimer s.stage.rate) s else s
  else if old.state = .noSignal then setLineTimers .stopped s
  else s

/-- An event of the chase unit is carried out. -/
def runChase (o : ChaseOut) (s : State) : State :=
  let old := s.chase
  lineTimers old o (handOut o.said o.frame (chaseNotice old o { s with chase := o.chase }))

/-- An invalid word: one BAD_WORD notice in a run of them (R18). -/
def badWord (reason : WordFault) (s : State) : State :=
  if s.chase.badRun then s
  else postNotice .chase (.badWord reason) { s with chase := { s.chase with badRun := true } }

/-- A valid word is taken (R18, R21 to R30). -/
def takeWord (m : Motion) (p : Nat) (s : State) : State :=
  runChase (wordOut s.stage m p { s.chase with badRun := false }) s

/-- A position word arrives, as its bytes (R17, R18). -/
def wordArrives (bytes : List Byte) (s : State) : State :=
  match readPositionWord bytes with
  | none => badWord .form s
  | some w =>
    if w.rateCode ≠ s.stage.rate.code then badWord .rate s
    else if labelValid s.stage.rate w.hours w.minutes w.seconds w.frames then
      takeWord w.motion (countOfLabel s.stage.rate w.hours w.minutes w.seconds w.frames) s
    else badWord .label s

/-- The absence timer expires; a stopped timer does not (R20; entry 22). -/
def absenceExpires (s : State) : State :=
  match s.chase.absence with
  | .stopped => s
  | .running _ _ => runChase (absenceOut s.stage s.chase) s

/-- The freewheel timer expires; a stopped timer does not (R20; entry 22). It runs in FREEWHEEL alone. -/
def freewheelExpires (s : State) : State :=
  match s.chase.fwTimer with
  | .stopped => s
  | .running _ _ => runChase (freewheelExpiryOut s.stage s.chase) s

/-- POSITION_WORD (R17). -/
def execPositionWord (bytes : List Byte) (s : State) : Host.Outcome State Fault Refusal :=
  .next (conclude (wordArrives bytes s))

/-- ABSENCE_TIMER_EXPIRY (R20). -/
def execAbsenceTimerExpiry (s : State) : Host.Outcome State Fault Refusal := .next (conclude (absenceExpires s))

/-- FREEWHEEL_TIMER_EXPIRY (R28). -/
def execFreewheelTimerExpiry (s : State) : Host.Outcome State Fault Refusal := .next (conclude (freewheelExpires s))

end Sys2Proof.Machine
end

