-- ==== Sys2Proof/Machine/Operands.lean ====
section
/-! DEFINITION. Machine/Operands.lean: the operand forms of the requests. Each reader takes a body and gives the
request's fields, or the first generic refusal: BAD_LENGTH, then BAD_VALUE (R178, R191, R192, R195). -/

namespace Sys2Proof.Machine

/-- The value of `n` bytes of a body from an offset, most significant first (R190). -/
def field (body : List Byte) (off n : Nat) : Nat := beNat ((body.drop off).take n)

/-- One bit of a byte of a body. -/
def bitAt (body : List Byte) (off bit : Nat) : Bool := decide (field body off 1 / 2 ^ bit % 2 = 1)

/-- A request read, or the generic refusal met first (R178). -/
abbrev Read (α : Type) := Except ResultCode α

/-- A fixed body: its length, then its values (R178). -/
def readFixed {α : Type} (n : Nat) (body : List Byte) (value : Option α) : Read α :=
  if body.length = n then
    match value with
    | some x => .ok x
    | none => .error .badValue
  else .error .badLength

/-- A value that stands when a check holds. -/
def valueIf {α : Type} (ok : Bool) (x : α) : Option α := if ok then some x else none

/-- The `n` values of a list of `w`-byte entries from an offset. -/
def fieldList (body : List Byte) (off w : Nat) : Nat → List Nat
  | 0 => []
  | n + 1 => field body off w :: fieldList body (off + w) w n

/-- No value stands twice in a list. -/
def noRepeat (xs : List Nat) : Bool :=
  match xs with
  | [] => true
  | x :: rest => !rest.contains x && noRepeat rest

/-! ## Bodies without operand and with one operand (R195) -/

/-- An empty body (REEL-LIST, STAGE-GET, STATUS, IDENT, RESTART). -/
def readNone (body : List Byte) : Read Unit := readFixed 0 body (some ())

/-- A booth alone (R195). -/
def readBooth (body : List Byte) : Read BoothId := readFixed 1 body (boothOfNumber (field body 0 1))

/-- A cue id alone, 1–65535 (CUE-DROP, CUE-GET, and CUE-LIST's start id, R51). -/
def readCueId (body : List Byte) : Read Nat :=
  readFixed 2 body (valueIf (decide (1 ≤ field body 0 2)) (field body 0 2))

/-- A reel id alone, 1–12 (R13). -/
def readReelId (body : List Byte) : Read Nat :=
  readFixed 1 body (valueIf (decide (1 ≤ field body 0 1) && decide (field body 0 1 ≤ 12)) (field body 0 1))

/-- A serial alone, not 0 (R135). -/
def readSerial (body : List Byte) : Read Nat :=
  readFixed 4 body (valueIf (decide (1 ≤ field body 0 4)) (field body 0 4))

/-- The count of LOG-READ, 1–8 (R138). -/
def readLogCount (body : List Byte) : Read Nat :=
  readFixed 1 body (valueIf (decide (1 ≤ field body 0 1) && decide (field body 0 1 ≤ 8)) (field body 0 1))

/-! ## Reels and stage settings (R12, R34) -/

/-- A label field of 9 bytes is in the values of R10 and R12: at most 8 characters, each 20h–7Eh; the fill of the
unused bytes counts only where it is checked (entry 12). -/
def labelOk (bytes : List Byte) : Bool :=
  let n := field bytes 0 1
  decide (n ≤ 8) && ((bytes.drop 1).take n).all (fun c => decide (0x20 ≤ c.toNat) && decide (c.toNat ≤ 0x7E)) &&
    ((bytes.drop (1 + n)).all (fun c => decide (c = 0x20)) || !Config.labelFillChecked)

/-- REEL-DEFINE: reel id, start, length, label (R12, R195). -/
def readReelDefine (rate : StageRate) (body : List Byte) : Read Reel :=
  let id := field body 0 1
  let start := field body 1 4
  let length := field body 5 4
  let label := body.drop 9
  let ok := decide (1 ≤ id) && decide (id ≤ 12) && decide (start < rate.perDay) && decide (1 ≤ length) &&
    decide (length ≤ rate.perHour) && labelOk label && decide (start + length ≤ rate.lastReelEnd)
  readFixed 18 body
    (valueIf ok { id := id, start := start, length := length, label := (label.drop 1).take (field label 0 1) })

/-- STAGE-SET: the six settings (R34, R195). -/
def readStageSet (body : List Byte) : Read Stage :=
  let lockCount := field body 1 1
  let fwLimit := field body 2 1
  let latency := field body 3 1
  let pre := field body 4 1
  let post := field body 5 1
  let ok := decide (2 ≤ lockCount) && decide (lockCount ≤ 8) && decide (1 ≤ fwLimit) && decide (fwLimit ≤ 30) &&
    decide (latency ≤ 15) && decide (pre ≤ 48) && decide (post ≤ 48)
  readFixed 6 body
    (match StageRate.ofCode (field body 0 1) with
    | some rate =>
      valueIf ok
        { rate := rate, lockCount := lockCount, fwLimit := fwLimit, latency := latency, pre := pre, post := post }
    | none => none)

/-! ## Cues (R42, R46, R192) -/

/-- The eight fields a CUE-AMEND may select (R46). -/
structure CueSelect where
  inPos : Bool
  outPos : Bool
  character : Bool
  tracks : Bool
  streamer : Bool
  beep : Bool
  guide : Bool
  scriptRef : Bool
  deriving DecidableEq, Repr

/-- Every field of the cue, as CUE-PUT gives them (R43). -/
def CueSelect.all : CueSelect := ⟨true, true, true, true, true, true, true, true⟩

/-- The guide of a code (R192). -/
def guideOfCode (n : Nat) : Option Guide :=
  match n with
  | 0 => some .none
  | 1 => some .lead
  | 2 => some .full
  | _ => none

/-- The tracks of the six bytes of a track set, up to the first 0 (R192). -/
def trackBytes (bytes : List Byte) : List Nat := (bytes.takeWhile (fun b => decide (b ≠ 0))).map (·.toNat)

/-- The value check of a track set (R42, R192). -/
def trackSetOk (bytes : List Byte) : Bool :=
  let ts := trackBytes bytes
  !ts.isEmpty && (bytes.drop ts.length).all (fun b => decide (b = 0)) && ts.all (fun t => decide (t ≤ 32)) && noRepeat ts

/-- The beep pattern's values are those of R39. -/
def beepOk (b : Beep) : Bool :=
  decide (b.count ≤ 4) && decide (6 ≤ b.spacing) && decide (b.spacing ≤ 60) && decide (1 ≤ b.length) &&
    decide (b.length < b.spacing)

/-- The beep pattern of three bytes (R192). -/
def beepAt (bs : List Byte) (off : Nat) : Beep :=
  { count := field bs off 1, spacing := field bs (off + 1) 1, length := field bs (off + 2) 1 }

/-- The guide code of byte 17 of a cue record (R192). -/
def guideCode (bs : List Byte) : Nat := field bs 17 1 / 16 % 4

/-- The host's fields of a cue record, offsets 0–25 (R192). A guide code that names nothing never stands behind a
passed check. -/
def cueFieldsOf (bs : List Byte) : CueFields :=
  { id := field bs 0 2, inPos := field bs 2 4, outPos := field bs 6 4, character := field bs 10 1,
    tracks := trackBytes ((bs.drop 11).take 6),
    streamer := if bitAt bs 17 0 then some (field bs 18 1) else none,
    beep := if bitAt bs 17 1 then some (beepAt bs 19) else none,
    guide := if bitAt bs 17 2 then guideOfCode (guideCode bs) else none,
    scriptRef := if bitAt bs 17 3 then some (field bs 22 4) else none }

/-- The value checks of R42 on the cue id and the selected fields, and the reserved bits of byte 17 (R190; entry 13). -/
def cueValuesOk (sel : CueSelect) (rate : StageRate) (bs : List Byte) : Bool :=
  decide (1 ≤ field bs 0 2) && decide (field bs 17 1 / 64 = 0) &&
    (!sel.inPos || decide (field bs 2 4 < rate.perDay)) && (!sel.outPos || decide (field bs 6 4 < rate.perDay)) &&
    (!sel.character || decide (field bs 10 1 ≤ 63)) && (!sel.tracks || trackSetOk ((bs.drop 11).take 6)) &&
    (!(sel.streamer && bitAt bs 17 0) || decide (field bs 18 1 ≤ 240)) &&
    (!(sel.beep && bitAt bs 17 1) || beepOk (beepAt bs 19)) &&
    (!(sel.guide && bitAt bs 17 2) || decide (guideCode bs ≤ 2))

/-- CUE-PUT: offsets 0–25 of a cue record (R43, R192). -/
def readCuePut (rate : StageRate) (body : List Byte) : Read CueFields :=
  readFixed 26 body (valueIf (cueValuesOk .all rate body) (cueFieldsOf body))

/-- The select set of a CUE-AMEND, its low byte (R192). -/
def selectOf (n : Nat) : CueSelect :=
  { inPos := decide (n % 2 = 1), outPos := decide (n / 2 % 2 = 1), character := decide (n / 4 % 2 = 1),
    tracks := decide (n / 8 % 2 = 1), streamer := decide (n / 16 % 2 = 1), beep := decide (n / 32 % 2 = 1),
    guide := decide (n / 64 % 2 = 1), scriptRef := decide (n / 128 % 2 = 1) }

/-- CUE-AMEND: a 2-byte select set and offsets 0–25 of a cue record (R46, R47, R192). -/
def readCueAmend (rate : StageRate) (body : List Byte) : Read (CueSelect × CueFields) :=
  let sel := field body 0 2
  let bs := body.drop 2
  let ok := decide (1 ≤ sel) && decide (sel < 256) && cueValuesOk (selectOf sel) rate bs
  readFixed 28 body (valueIf ok (selectOf sel, cueFieldsOf bs))

/-! ## Passes (R62, R67, R192, R195) -/

/-- The mode of a code (R190). -/
def modeOfCode (n : Nat) : Option Mode :=
  match n with
  | 0 => some .rehearse
  | 1 => some .record
  | 2 => some .review
  | _ => none

/-- The policy of a code (R190). -/
def policyOfCode (n : Nat) : Option Policy :=
  match n with
  | 0 => some .once
  | 1 => some .repeated
  | _ => none

/-- The selection of a PASS-BUILD (R62). -/
inductive Selection where
  | range (first last : Nat) (unfinishedOnly : Bool)
  | list (ids : List Nat)
  deriving DecidableEq, Repr

/-- A PASS-BUILD request (R62). -/
structure BuildRequest where
  booth : BoothId
  mode : Mode
  policy : Policy
  limit : Nat
  extend : Bool
  selection : Selection
  deriving DecidableEq, Repr

/-- The length of a PASS-BUILD body is the one its form requires (R178, R192). -/
def buildLengthOk (body : List Byte) : Bool :=
  decide (5 ≤ body.length) &&
    if bitAt body 4 2 then decide (6 ≤ body.length) && decide (body.length = 6 + 2 * field body 5 1)
    else decide (body.length = 13)

/-- The selection of a PASS-BUILD body, when its values are those of R62. -/
def selectionOf (rate : StageRate) (body : List Byte) : Option Selection :=
  if bitAt body 4 2 then
    let count := field body 5 1
    let ids := fieldList body 6 2 count
    valueIf (decide (1 ≤ count) && decide (count ≤ 112) && ids.all (fun i => decide (1 ≤ i)) && !bitAt body 4 1)
      (.list ids)
  else
    let first := field body 5 4
    let last := field body 9 4
    valueIf (decide (first < rate.perDay) && decide (last < rate.perDay) && decide (first ≤ last))
      (.range first last (bitAt body 4 1))

/-- PASS-BUILD: booth, mode, policy, take limit, options and the selection (R62, R192). -/
def readPassBuild (rate : StageRate) (body : List Byte) : Read BuildRequest :=
  if buildLengthOk body then
    match boothOfNumber (field body 0 1), modeOfCode (field body 1 1), policyOfCode (field body 2 1),
        selectionOf rate body with
    | some b, some m, some p, some sel =>
      if field body 3 1 ≤ 99 ∧ field body 4 1 / 8 = 0 then
        .ok { booth := b, mode := m, policy := p, limit := field body 3 1, extend := bitAt body 4 0, selection := sel }
      else .error .badValue
    | _, _, _, _ => .error .badValue
  else .error .badLength

/-- A PASS-GET request (R67). -/
structure PassGetRequest where
  booth : BoothId
  staged : Bool
  start : Nat
  deriving DecidableEq, Repr

/-- PASS-GET: booth, context, start index (R67, R195). -/
def readPassGet (body : List Byte) : Read PassGetRequest :=
  let start := field body 2 1
  let ok := decide (field body 1 1 ≤ 1) && decide (1 ≤ start) && decide (start ≤ 128)
  readFixed 3 body
    (match boothOfNumber (field body 0 1) with
    | some b => valueIf ok { booth := b, staged := decide (field body 1 1 = 1), start := start }
    | none => none)

/-! ## Tracks and takes (R125, R134, R137, R195) -/

/-- TRACK-GET: track and start index (R125). -/
def readTrackGet (body : List Byte) : Read (Nat × Nat) :=
  let track := field body 0 1
  let start := field body 1 2
  let ok := decide (1 ≤ track) && decide (track ≤ 32) && decide (1 ≤ start) && decide (start ≤ 1024)
  readFixed 3 body (valueIf ok (track, start))

/-- The operations SET, CLEAR and INVERT (R134, R167). -/
inductive SetOp where
  | set | clear | invert
  deriving DecidableEq, Repr

/-- The operation of a code (R195). -/
def opOfCode (n : Nat) : Option SetOp :=
  match n with
  | 0 => some .set
  | 1 => some .clear
  | 2 => some .invert
  | _ => none

/-- TAKE-MARK: operation, count and that many serials (R134, R195). -/
def readTakeMark (body : List Byte) : Read (SetOp × List Nat) :=
  let count := field body 1 1
  let serials := fieldList body 2 4 count
  if 2 ≤ body.length ∧ body.length = 2 + 4 * count then
    match opOfCode (field body 0 1) with
    | some op =>
      if decide (1 ≤ count) && decide (count ≤ 8) && serials.all (fun x => decide (1 ≤ x)) && noRepeat serials then
        .ok (op, serials)
      else .error .badValue
    | none => .error .badValue
  else .error .badLength

/-- The target of a LOG-SEEK (R137). -/
inductive SeekTarget where
  | oldest | newest | serial (n : Nat)
  deriving DecidableEq, Repr

/-- LOG-SEEK: target and serial; the serial is a reserved field but for SERIAL (R137, R195). -/
def readLogSeek (body : List Byte) : Read SeekTarget :=
  let serial := field body 1 4
  readFixed 5 body
    (match field body 0 1 with
    | 0 => valueIf (decide (serial = 0)) .oldest
    | 1 => valueIf (decide (serial = 0)) .newest
    | 2 => valueIf (decide (1 ≤ serial)) (.serial serial)
    | _ => none)

/-! ## Booth settings, filters and notices (R166, R167, R183, R195) -/

/-- BOOTH-SET: booth and the five settings (R166, R195). -/
def readBoothSet (body : List Byte) : Read (BoothId × BoothSettings) :=
  let beep := beepAt body 3
  let ok := decide (field body 1 1 ≤ 7) && decide (field body 2 1 ≤ 240) && beepOk beep && decide (field body 7 1 ≤ 3)
  readFixed 8 body
    (match boothOfNumber (field body 0 1), guideOfCode (field body 6 1) with
    | some b, some g =>
      valueIf ok (b, { delay := field body 1 1, streamer := field body 2 1, beep := beep, guide := g, priority := field body 7 1 })
    | _, _ => none)

/-- A BOOTH-FILTER request (R167). -/
structure FilterRequest where
  booth : BoothId
  op : SetOp
  ids : List Nat
  deriving DecidableEq, Repr

/-- BOOTH-FILTER: booth, operation, count and that many character ids (R167, R195). -/
def readBoothFilter (body : List Byte) : Read FilterRequest :=
  let count := field body 2 1
  let ids := fieldList body 3 1 count
  if 3 ≤ body.length ∧ body.length = 3 + count then
    match boothOfNumber (field body 0 1), opOfCode (field body 1 1) with
    | some b, some op =>
      if decide (1 ≤ count) && decide (count ≤ 64) && ids.all (fun x => decide (x ≤ 63)) && noRepeat ids then
        .ok { booth := b, op := op, ids := ids }
      else .error .badValue
    | _, _ => .error .badValue
  else .error .badLength

/-- The class set of a byte's low six bits (R190). -/
def classSetOf (n : Nat) : ClassSet :=
  { chase := decide (n % 2 = 1), booth := decide (n / 2 % 2 = 1), cue := decide (n / 4 % 2 = 1),
    take := decide (n / 8 % 2 = 1), recorder := decide (n / 16 % 2 = 1), link := decide (n / 32 % 2 = 1) }

/-- NOTICE-SET: the enable set, its two unassigned bits 0 (R183, R190, R195). -/
def readNoticeSet (body : List Byte) : Read ClassSet :=
  readFixed 1 body (valueIf (decide (field body 0 1 < 64)) (classSetOf (field body 0 1)))

end Sys2Proof.Machine
end

