-- ==== Sys2Proof/Machine/Intake.lean ====
section
/-! DEFINITION. Machine/Intake.lean: how a well-framed frame is taken by the intake (R177, R178, R187), and how a
request's reading and its owner's checks give a reply. -/

namespace Sys2Proof.Machine

/-- What the owning block makes of a request: the state after it and the reply (R177). -/
abbrev Handler := State → State × Reply

/-- A request read and handed to its owner, or refused by a generic check with nothing changed (R178). -/
def onRead {α : Type} (r : Read α) (owner : α → Handler) : Handler :=
  match r with
  | .ok x => owner x
  | .error code => fun s => (s, .refused code)

/-- A reply that changes nothing. -/
def answer (r : Reply) : Handler := fun s => (s, r)

/-- The receiver has found a well-framed frame: it returns to HUNT and the fault-run flag is cleared (R176). When a command
for a whole frame finds other bytes collected in FRAME, they are dropped with no fault and no notice: the model's choice
(entry 35). -/
def frameFound (s : State) : State := { s with ctl := { s.ctl with receiver := .hunt, faultRun := false } }

/-- A well-framed frame is taken: as the request in hand in IDLE, answered BUSY in HANDLING, discarded in RESTARTING
(R177, R187). A discarded frame too sets the receiver to HUNT and clears the fault-run flag (R176), where R187 gives it no
effect: the model's choice (entry 34). -/
def takeRequest (kind : Byte) (tag : Tag) (h : Handler) (s : State) : State :=
  let s := frameFound s
  match s.ctl.intake with
  | .idle =>
    let r := h s
    conclude (post .intake (replyFrame kind tag r.2) r.1)
  | .handling _ => conclude (post .intake (busyFrame kind tag) s)
  | .restarting => s

end Sys2Proof.Machine
end

