-- ==== Sys2Proof/Machine/Stage.lean ====
section
/-! DEFINITION. Machine/Stage.lean: the stage requests (R34 to R37). -/

namespace Sys2Proof.Machine

/-- The booth states in which stage and booth settings are refused (R34, R166). -/
def BoothState.fixesSettings (v : BoothState) : Bool :=
  match v with
  | .rolling => true
  | .held => true
  | .stopping => true
  | .empty => false
  | .ready => false
  | .done => false

/-- A booth is ROLLING, HELD or STOPPING (R34 step 2). -/
def anyBoothFixed (s : State) : Bool := s.booths.toList.any fun v => v.state.fixesSettings

/-- The settings are stored, a change of rate returning the chase unit to NO_SIGNAL (R34, R36). -/
def storeStage (new : Stage) (s : State) : State :=
  let stored := { s with stage := new }
  if new.rate = s.stage.rate then stored else runChase (rateChangeOut s.chase) stored

/-- STAGE-SET's own checks and effect (R34). -/
def setStage (new : Stage) : Handler := fun s =>
  if anyBoothFixed s then (s, .refused .wrongState)
  else if new.rate ≠ s.stage.rate ∧ (s.cues ≠ [] ∨ s.reels ≠ []) then (s, .refused .rateLocked)
  else (storeStage new s, .stage new)

/-- STAGE-SET as it is taken (R34). -/
def handleStageSet (body : List Byte) : Handler := onRead (readStageSet body) setStage

/-- STAGE-GET as it is taken (R37). -/
def handleStageGet (body : List Byte) : Handler := onRead (readNone body) fun _ s => (s, .stage s.stage)

/-- STAGE_SET (R34). -/
def execStageSet (tag : Tag) (body : List Byte) (s : State) : Host.Outcome State Fault Refusal :=
  .next (takeRequest 0x04 tag (handleStageSet body) s)

/-- STAGE_GET (R37). -/
def execStageGet (tag : Tag) (body : List Byte) (s : State) : Host.Outcome State Fault Refusal :=
  .next (takeRequest 0x05 tag (handleStageGet body) s)

end Sys2Proof.Machine
end

