-- ==== Sys2Proof/Machine/BoothSettings.lean ====
section
/-! DEFINITION. Machine/BoothSettings.lean: the requests on booth settings, filters and lines (R166 to R169). -/

namespace Sys2Proof.Machine

/-- BOOTH-SET's own check and effect (R166). -/
def setBooth (r : BoothId × BoothSettings) : Handler := fun s =>
  if (s.booth r.1).state.fixesSettings then (s, .refused .wrongState)
  else (modBooth r.1 (fun v => { v with settings := r.2 }) s, .boothSettings r.2)

/-- BOOTH-SET as it is taken (R166). -/
def handleBoothSet (body : List Byte) : Handler := onRead (readBoothSet body) setBooth

/-- An id is in the filter after an operation (R167). -/
def filterHas (op : SetOp) (listed held : Bool) : Bool :=
  match op with
  | .set => held || listed
  | .clear => held && !listed
  | .invert => if listed then !held else held

/-- The filter after an operation, in ascending order (R167). -/
def filterAfter (op : SetOp) (ids held : List Nat) : List Nat :=
  (List.range 64).filter fun c => filterHas op (ids.contains c) (held.contains c)

/-- BOOTH-FILTER's effect (R167). -/
def filterBooth (r : FilterRequest) : Handler := fun s =>
  let new := filterAfter r.op r.ids (s.booth r.booth).filter
  (modBooth r.booth (fun v => { v with filter := new }) s, .filter new)

/-- BOOTH-FILTER as it is taken (R167). -/
def handleBoothFilter (body : List Byte) : Handler := onRead (readBoothFilter body) filterBooth

/-- BOOTH-GET's reply (R168). -/
def getBooth (b : BoothId) : Handler := fun s => (s, .booth (s.booth b).settings (s.booth b).filter)

/-- BOOTH-GET as it is taken (R168). -/
def handleBoothGet (body : List Byte) : Handler := onRead (readBooth body) getBooth

/-- LINE-GET's reply (R169). -/
def getLine (b : BoothId) : Handler := fun s => (s, .line (s.lines.get b).last)

/-- LINE-GET as it is taken (R169). -/
def handleLineGet (body : List Byte) : Handler := onRead (readBooth body) getLine

/-- BOOTH_SET (R166). -/
def execBoothSet (tag : Tag) (body : List Byte) (s : State) : Host.Outcome State Fault Refusal :=
  .next (takeRequest 0x19 tag (handleBoothSet body) s)

/-- BOOTH_FILTER_SET (R167). -/
def execBoothFilterSet (tag : Tag) (body : List Byte) (s : State) : Host.Outcome State Fault Refusal :=
  .next (takeRequest 0x1A tag (handleBoothFilter body) s)

/-- BOOTH_FILTER_CLEAR (R167). -/
def execBoothFilterClear (tag : Tag) (body : List Byte) (s : State) : Host.Outcome State Fault Refusal :=
  .next (takeRequest 0x1A tag (handleBoothFilter body) s)

/-- BOOTH_FILTER_INVERT (R167). -/
def execBoothFilterInvert (tag : Tag) (body : List Byte) (s : State) : Host.Outcome State Fault Refusal :=
  .next (takeRequest 0x1A tag (handleBoothFilter body) s)

/-- BOOTH_GET (R168). -/
def execBoothGet (tag : Tag) (body : List Byte) (s : State) : Host.Outcome State Fault Refusal :=
  .next (takeRequest 0x1B tag (handleBoothGet body) s)

/-- LINE_GET (R169). -/
def execLineGet (tag : Tag) (body : List Byte) (s : State) : Host.Outcome State Fault Refusal :=
  .next (takeRequest 0x1C tag (handleLineGet body) s)

end Sys2Proof.Machine
end

