-- ==== Sys2Proof/Machine/Control.lean ====
section
/-! DEFINITION. Machine/Control.lean: the requests that concern the part as a whole (R183 to R185, R187), the end of a
control frame's transmission (R179, R180, R182), and the two resets (R141, R164, R174, R186 to R188). -/

namespace Sys2Proof.Machine

/-! ## NOTICE-SET, STATUS, IDENT, RESTART -/

/-- NOTICE-SET's effect (R183). The new set governs notices from the taking of the request on, also while its reply waits
for room in the queue: the model's choice (entry 38). -/
def setNotices (c : ClassSet) : Handler := fun s => ({ s with ctl := { s.ctl with enabled := c } }, .enabled c)

/-- NOTICE-SET as it is taken (R183). -/
def handleNoticeSet (body : List Byte) : Handler := onRead (readNoticeSet body) setNotices

/-- A booth's part of STATUS (R184). -/
def Booth.status (v : Booth) : BoothStatus :=
  { state := v.state, activeCount := v.active.map (·.entries.length), stagedCount := v.staged.map (·.entries.length),
    cursor := v.active.map (·.cursor), front := v.window.head?.map (·.cueId),
    back := (v.window.drop 1).head?.map (·.cueId), cutPending := v.cutPending }

/-- The content of a STATUS reply (R163, R184). -/
def statusView (s : State) : StatusView :=
  { chase := s.chase.state, pos := s.chase.current, booths := s.booths.map Booth.status, flow := s.link.flow,
    stopCount := s.link.stopLane.length, startCount := s.link.startLane.length,
    awaitingCount := s.link.awaiting.length, outstandingCount := s.link.outstanding.length,
    records := s.log.records.length, spansInUse := s.spans.length, enabled := s.ctl.enabled, lost := s.ctl.lost }

/-- STATUS as it is taken (R184). -/
def handleStatus (body : List Byte) : Handler := onRead (readNone body) fun _ s => (s, .status (statusView s))

/-- IDENT as it is taken (R185). -/
def handleIdent (body : List Byte) : Handler := onRead (readNone body) fun _ s => (s, .ident s.ctl.resetCause)

/-- RESTART as it is taken: accepted in every state (R187). -/
def handleRestart (body : List Byte) : Handler := onRead (readNone body) fun _ s => (s, .ok)

/-! ## The restart (R141, R164, R174, R187, R188) -/

/-- A take as the restart converts it, against the last advanced position (R141). -/
def convertTake (last : Option Nat) (t : Take) : Take :=
  match t.state with
  | .planned => t.terminal .failed (some .restart)
  | .opened | .withdrawing =>
    match cutEnd t last with
    | some e => { t with state := .aborted, spanEnd := t.spanEnd.map (min · e), closing := none }
    | none => t.terminal .failed (some .restart)
  | .kept | .truncated | .aborted | .failed | .overwritten | .dropped => t

/-- The span of a take as the restart leaves it: released, shrunk or kept (R126, R141). -/
def convertSpan (last : Option Nat) (takes : List Take) (x : Span) : Option Span :=
  match takes.find? (fun t => decide (t.serial = x.serial)) with
  | none => some x
  | some t =>
    match t.state with
    | .planned => none
    | .opened | .withdrawing => (cutEnd t last).map fun e => { x with stop := min x.stop e }
    | .kept | .truncated | .aborted | .failed | .overwritten | .dropped => some x

/-- A booth controller after a restart: EMPTY, its settings and filter kept (R87, R112). That its last taken position is
none is the model's choice (entry 20). -/
def Booth.restarted (v : Booth) : Booth :=
  { v with state := .empty, active := none, staged := none, cutPending := false, window := [], lastTaken := none }

/-- A booth line after a restart: nothing held, and the NO_SIGNAL frame due at once; a frame being sent completes its
transmission (R170, R174). -/
def Line.restarted (rate : StageRate) (l : Line) : Line :=
  Line.offer .blank { l with last := none, waiting := none, seq := 0, timer := noSignalTimer rate }

/-- The recorder link after a restart, before HALT-ALL is raised: lanes and lists empty, the flow, the tag counter and
an order being sent kept (R164). -/
def RecLink.restarted (l : RecLink) : RecLink :=
  { l with stopLane := [], startLane := [], awaiting := [], outstanding := [] }

/-- The HELLO notice (R186, R188). -/
def hello (cause : ResetCause) (enabled : ClassSet) : OutFrame := noticeFrame (.hello cause enabled)

/-- The link controller after a restart: the queue emptied and HELLO placed (R188). -/
def Control.restarted (c : Control) : Control :=
  { receiver := .hunt, faultRun := false, intake := .idle, queue := [hello .restart c.enabled], lost := .none,
    enabled := c.enabled, resetCause := .restart }

/-- The restart takes effect in every block in one event (R16, R38, R58, R87, R112, R126, R141, R142, R164, R174,
R187, R188). -/
def restartEffect (s : State) : State :=
  let last := s.chase.lastAdvanced
  raiseStop .haltAll none none none none
    { s with
      chase := .reset
      cues := s.cues.map fun c => { c with mark := none }
      booths := s.booths.map Booth.restarted
      spans := s.spans.filterMap (convertSpan last s.log.records)
      log := { s.log with records := s.log.records.map (convertTake last), bound := 1 }
      link := s.link.restarted
      lines := s.lines.map (Line.restarted s.stage.rate)
      ctl := s.ctl.restarted }

/-! ## The end of a transmission (R179, R180, R182) -/

/-- A waiting reply takes the freed place (R180). -/
def Control.placeWaiting (c : Control) : Control :=
  match c.intake with
  | .handling f => c.placeReply f
  | .idle => c
  | .restarting => c

/-- A LOST notice is placed when the lost set is not empty and two places are free (R182). -/
def Control.placeLost (c : Control) : Control :=
  if c.lost ≠ .none ∧ c.queue.length + 2 ≤ queuePlaces then
    { c.append (noticeFrame (.lost c.lost)) with lost := .none }
  else c

/-- The first frame leaves the queue: the restart takes effect when it is the RESTART reply; otherwise a waiting reply
and a LOST notice are placed (R179, R180, R182, R187). With an empty queue nothing is being sent (entry 22). -/
def frameLeaves (s : State) : State :=
  match s.ctl.queue with
  | [] => s
  | f :: rest =>
    if s.ctl.intake = .restarting ∧ f.isRestartOk = true then restartEffect s
    else { s with ctl := ({ s.ctl with queue := rest }.placeWaiting).placeLost }

/-! ## Power-on (R186) -/

/-- The part before its first events after power-on: nothing placed and no frame begun (R16, R38, R58, R87, R112, R126,
R142, R164, R165, R174, R186). -/
def coldState : State :=
  { State.reset with
    lines :=
      let l : Line := { last := none, waiting := none, seq := 0, timer := .stopped, sending := false }
      ⟨l, l, l, l⟩
    ctl := { Control.powerUp with queue := [] } }

/-- The events of power-on: HELLO is placed, a NO_SIGNAL frame falls due on each line and its timer is started (R170,
R174, R186). -/
def startUp (s : State) : State :=
  let due := frameDue .bc4 none (frameDue .bc3 none (frameDue .bc2 none (frameDue .bc1 none s)))
  let timed := setLineTimers (noSignalTimer s.stage.rate) due
  { timed with ctl := timed.ctl.append (hello timed.ctl.resetCause timed.ctl.enabled) }

/-- POWER_ON: every block at its power-on state. The queue of commands and the free values' counter are the model's
own (entries 1 and 2). -/
def powerUp (s : State) : State := { startUp coldState with pending := s.pending, free := s.free }

/-! ## Meanings -/

/-- POWER_ON (R186). -/
def execPowerOn (s : State) : Host.Outcome State Fault Refusal := .next (powerUp s)

/-- NOTICE_SET (R183). -/
def execNoticeSet (tag : Tag) (body : List Byte) (s : State) : Host.Outcome State Fault Refusal :=
  .next (takeRequest 0x1D tag (handleNoticeSet body) s)

/-- STATUS (R184). -/
def execStatus (tag : Tag) (body : List Byte) (s : State) : Host.Outcome State Fault Refusal :=
  .next (takeRequest 0x1E tag (handleStatus body) s)

/-- IDENT (R185). -/
def execIdent (tag : Tag) (body : List Byte) (s : State) : Host.Outcome State Fault Refusal :=
  .next (takeRequest 0x1F tag (handleIdent body) s)

/-- RESTART (R187). -/
def execRestart (tag : Tag) (body : List Byte) (s : State) : Host.Outcome State Fault Refusal :=
  .next (takeRequest 0x20 tag (handleRestart body) s)

/-- OUTBOUND_FRAME_SENT (R179). -/
def execOutboundFrameSent (s : State) : Host.Outcome State Fault Refusal := .next (conclude (frameLeaves s))

end Sys2Proof.Machine
end

