-- ==== Sys2Proof/Machine/Cues.lean ====
section
/-! DEFINITION. Machine/Cues.lean: the cue requests (R42 to R51). -/

namespace Sys2Proof.Machine

/-- The most cue records the table holds (R40). -/
def cuePlaces : Nat := 1024

/-- The placement checks of R42, in order; the reel when all pass. -/
def placement (inPos outPos : Nat) (s : State) : Except ResultCode Nat :=
  if ¬ (inPos < outPos ∧ outPos ≤ inPos + 9000) then .error .badValue
  else if inPos < s.stage.pre then .error .badValue
  else
    match placeLine s.reels inPos outPos with
    | some reel => .ok reel
    | none => .error .offReel

/-- A record stored in ascending cue id, in place of one with its id (R40, R45). -/
def storeCue (c : Cue) (cs : List Cue) : List Cue :=
  match cs with
  | [] => [c]
  | x :: rest =>
    if c.fields.id < x.fields.id then c :: x :: rest
    else if c.fields.id = x.fields.id then c :: rest
    else x :: storeCue c rest

/-- The largest take number among the records held with a cue id, 0 when none is held (R44, R129). -/
def largestNumber (cue : Nat) (ts : List Take) : Nat :=
  ts.foldl (fun n t => if t.cue = cue then max n t.number else n) 0

/-- A cue's record as it is stored, with its reply (R43 to R47). -/
def keepCue (c : Cue) : Handler := fun s => ({ s with cues := storeCue c s.cues }, .cue c)

/-- CUE-PUT's own checks and effect (R43 to R45). -/
def putCue (f : CueFields) : Handler := fun s =>
  match placement f.inPos f.outPos s with
  | .error code => (s, .refused code)
  | .ok reel =>
    match findCue f.id s with
    | some held =>
      if held.mark ≠ none then (s, .refused .cueInPass)
      else keepCue { fields := f, reel := reel, nextTake := held.nextTake, mark := none } s
    | none =>
      if cuePlaces ≤ s.cues.length then (s, .refused .cueTableFull)
      else keepCue { fields := f, reel := reel, nextTake := largestNumber f.id s.log.records + 1, mark := none } s

/-- The fields of a cue with the selected ones written from the request (R46). -/
def amendFields (sel : CueSelect) (new old : CueFields) : CueFields :=
  { id := old.id
    inPos := if sel.inPos then new.inPos else old.inPos
    outPos := if sel.outPos then new.outPos else old.outPos
    character := if sel.character then new.character else old.character
    tracks := if sel.tracks then new.tracks else old.tracks
    streamer := if sel.streamer then new.streamer else old.streamer
    beep := if sel.beep then new.beep else old.beep
    guide := if sel.guide then new.guide else old.guide
    scriptRef := if sel.scriptRef then new.scriptRef else old.scriptRef }

/-- The reel of an amended record: derived anew when in or out is selected, else kept (R47). -/
def amendReel (sel : CueSelect) (f : CueFields) (held : Cue) (s : State) : Except ResultCode Nat :=
  if sel.inPos || sel.outPos then placement f.inPos f.outPos s else .ok held.reel

/-- CUE-AMEND's own checks and effect (R46, R47). -/
def amendCue (r : CueSelect × CueFields) : Handler := fun s =>
  match findCue r.2.id s with
  | none => (s, .refused .noSuchCue)
  | some held =>
    if (r.1.inPos || r.1.outPos) = true ∧ held.mark ≠ none then (s, .refused .cueInPass)
    else
      let fields := amendFields r.1 r.2 held.fields
      match amendReel r.1 fields held s with
      | .error code => (s, .refused code)
      | .ok reel => keepCue { held with fields := fields, reel := reel } s

/-- The log holds a take of a cue in a span-holding state (R49). -/
def cueHoldsTape (cue : Nat) (s : State) : Bool :=
  s.log.records.any fun t => decide (t.cue = cue) && t.state.holdsSpan

/-- CUE-DROP's own checks and effect (R49). -/
def dropCue (id : Nat) : Handler := fun s =>
  match findCue id s with
  | none => (s, .refused .noSuchCue)
  | some held =>
    if held.mark ≠ none then (s, .refused .cueInPass)
    else if cueHoldsTape id s then (s, .refused .cueHasTakes)
    else ({ s with cues := s.cues.filter fun c => decide (c.fields.id ≠ id) }, .cueId id)

/-- CUE-GET's own check and reply (R50). -/
def getCue (id : Nat) : Handler := fun s =>
  match findCue id s with
  | none => (s, .refused .noSuchCue)
  | some held => (s, .cue held)

/-- CUE-LIST's reply (R51): up to eight records from a start id, and whether more follow. -/
def listCues (start : Nat) : Handler := fun s =>
  let found := s.cues.filter fun c => decide (start ≤ c.fields.id)
  (s, .cues (found.take 8) (decide (8 < found.length)))

/-- CUE-PUT as it is taken (R43). -/
def handleCuePut (body : List Byte) : Handler := fun s => onRead (readCuePut s.stage.rate body) putCue s

/-- CUE-AMEND as it is taken (R46, R47). -/
def handleCueAmend (body : List Byte) : Handler := fun s => onRead (readCueAmend s.stage.rate body) amendCue s

/-- CUE-DROP as it is taken (R49). -/
def handleCueDrop (body : List Byte) : Handler := onRead (readCueId body) dropCue

/-- CUE-GET as it is taken (R50). -/
def handleCueGet (body : List Byte) : Handler := onRead (readCueId body) getCue

/-- CUE-LIST as it is taken (R51). -/
def handleCueList (body : List Byte) : Handler := onRead (readCueId body) listCues

/-- CUE_PUT (R43). -/
def execCuePut (tag : Tag) (body : List Byte) (s : State) : Host.Outcome State Fault Refusal :=
  .next (takeRequest 0x06 tag (handleCuePut body) s)

/-- CUE_AMEND (R47). -/
def execCueAmend (tag : Tag) (body : List Byte) (s : State) : Host.Outcome State Fault Refusal :=
  .next (takeRequest 0x07 tag (handleCueAmend body) s)

/-- CUE_DROP (R49). -/
def execCueDrop (tag : Tag) (body : List Byte) (s : State) : Host.Outcome State Fault Refusal :=
  .next (takeRequest 0x08 tag (handleCueDrop body) s)

/-- CUE_GET (R50). -/
def execCueGet (tag : Tag) (body : List Byte) (s : State) : Host.Outcome State Fault Refusal :=
  .next (takeRequest 0x09 tag (handleCueGet body) s)

/-- CUE_LIST (R51). -/
def execCueList (tag : Tag) (body : List Byte) (s : State) : Host.Outcome State Fault Refusal :=
  .next (takeRequest 0x0A tag (handleCueList body) s)

end Sys2Proof.Machine
end

