-- ==== Sys2Proof/Machine/Passes.lean ====
section
/-! DEFINITION. Machine/Passes.lean: the pass and booth-state requests (R62 to R67, R73, R74, R79 to R84). -/

namespace Sys2Proof.Machine

/-- The most entries of a pass (R59). -/
def passPlaces : Nat := 128

/-! ## Building (R62 to R66) -/

/-- A circled take of the cue is held (R63). -/
def cueCircled (cue : Nat) (s : State) : Bool := s.log.records.any fun t => decide (t.cue = cue) && t.circled

/-- The range form selects a cue (R63). -/
def rangeSelects (b : BoothId) (first last : Nat) (unfinishedOnly : Bool) (s : State) (c : Cue) : Bool :=
  decide (first ≤ c.fields.inPos) && decide (c.fields.inPos ≤ last) &&
    ((s.booth b).filter.isEmpty || (s.booth b).filter.contains c.fields.character) && !c.markedByOther b &&
    !(unfinishedOnly && cueCircled c.fields.id s)

/-- The first cue id of a list that stands earlier in it or in the staged pass (R64 check 1; entry 14). -/
def firstRepeated (seen : List Nat) (ids : List Nat) : Option Nat :=
  match ids with
  | [] => none
  | i :: rest => if seen.contains i then some i else firstRepeated (i :: seen) rest

/-- The checks of the list form (R64). -/
def listRefusal (b : BoothId) (carried ids : List Nat) (s : State) : Option Reply :=
  match firstRepeated carried ids with
  | some i => some (.refusedCue .badValue i)
  | none =>
    match ids.find? (fun i => (findCue i s).isNone) with
    | some i => some (.refusedCue .noSuchCue i)
    | none =>
      (ids.find? fun i => ((findCue i s).map (Cue.markedByOther b)).getD false).map (.refusedCue .cueInPass ·)

/-- A cue put into the order of a pass: ascending in, and among equal in the order of arrival (R59, R65). -/
def insertByIn (c : Cue) (cs : List Cue) : List Cue :=
  match cs with
  | [] => [c]
  | x :: rest => if c.fields.inPos < x.fields.inPos then c :: x :: rest else x :: insertByIn c rest

/-- The cues of a set of ids in the order of a pass; the table is in ascending cue id (R40, R65). -/
def passOrder (ids : List Nat) (s : State) : List Cue :=
  (s.cues.filter fun c => ids.contains c.fields.id).foldl (fun cs c => insertByIn c cs) []

/-- The first pair of consecutive cues whose spacing fails, the later cue first (R65 check 3). -/
def badSpacing (stage : Stage) (cs : List Cue) : Option (Nat × Nat) :=
  match cs with
  | [] => none
  | a :: rest =>
    match rest with
    | [] => none
    | b :: _ =>
      if a.fields.outPos + stage.post + stage.pre ≤ b.fields.inPos then badSpacing stage rest
      else some (b.fields.id, a.fields.id)

/-- The new staged pass of an accepted build (R66). -/
def builtContext (r : BuildRequest) (cs : List Cue) (reachEnd : Int) : Context :=
  { mode := r.mode, policy := r.policy, limit := r.limit, kept := 0,
    entries := cs.map fun c => { cue := c.fields.id, live := false, takesMade := 0 }, cursor := some 1,
    reachEnd := reachEnd }

/-- The staged pass replaced, with the marks of R53 (R66). -/
def stageBuilt (b : BoothId) (ctx : Context) (s : State) : State :=
  modBooth b (fun v => { v with staged := some ctx })
    (modCues (ctx.entries.map (·.cue)) (Cue.setStaged b)
      (modCues (passCues (s.booth b).staged) (Cue.clearStaged b) s))

/-- The checks of both forms on the cues of the new pass, and the build (R65, R66). -/
def finishBuild (r : BuildRequest) (ids : List Nat) : Handler := fun s =>
  let cs := passOrder ids s
  match cs.head?, cs.getLast? with
  | some first, some last =>
    if passPlaces < cs.length then (s, .refusedFull cs.length)
    else
      match badSpacing s.stage cs with
      | some (later, earlier) => (s, .refusedOverlap later earlier)
      | none =>
        let reachEnd := cueEnd r.booth r.mode last s
        (stageBuilt r.booth (builtContext r cs reachEnd) s,
          .built r.booth cs.length first.fields.id last.fields.id (sentPos s.stage.rate reachEnd))
  | _, _ => (s, .refused .passEmpty)

/-- PASS-BUILD's own checks and effect (R62 to R66). -/
def buildPass (r : BuildRequest) : Handler := fun s =>
  let carried := if r.extend then passCues (s.booth r.booth).staged else []
  match r.selection with
  | .range first last unfinishedOnly =>
    let chosen := (s.cues.filter (rangeSelects r.booth first last unfinishedOnly s)).map (·.fields.id)
    finishBuild r (carried ++ chosen) s
  | .list ids =>
    match listRefusal r.booth carried ids s with
    | some refusal => (s, refusal)
    | none => finishBuild r (carried ++ ids) s

/-- PASS-BUILD as it is taken (R62). -/
def handlePassBuild (body : List Byte) : Handler := fun s => onRead (readPassBuild s.stage.rate body) buildPass s

/-! ## Reading (R67) -/

/-- The head of a context, its reach end as it is sent (R2, R67). -/
def Context.headOf (rate : StageRate) (c : Context) : PassHead :=
  { mode := c.mode, policy := c.policy, limit := c.limit, kept := c.kept, count := c.entries.length, cursor := c.cursor,
    reachEnd := sentPos rate c.reachEnd }

/-- The view of a context at a stage rate from a start index: up to 32 entries (R67). -/
def passView (rate : StageRate) (c : Option Context) (start : Nat) (pending : Option Bool) : PassView :=
  match c with
  | none => { head := none, entries := [], more := false, cutPending := pending }
  | some c =>
    let found := c.entries.drop (start - 1)
    { head := some (c.headOf rate), entries := found.take 32, more := decide (32 < found.length), cutPending := pending }

/-- PASS-GET's reply (R67). -/
def getPass (r : PassGetRequest) : Handler := fun s =>
  let v := s.booth r.booth
  (s, .pass (if r.staged then passView s.stage.rate v.staged r.start none
    else passView s.stage.rate v.active r.start (some v.cutPending)))

/-- PASS-GET as it is taken (R67). -/
def handlePassGet (body : List Byte) : Handler := onRead (readPassGet body) getPass

/-! ## Cut-over and discard (R73, R74) -/

/-- PASS-CUTOVER's own check and effect (R73). -/
def cutover (b : BoothId) : Handler := fun s =>
  let v := s.booth b
  if v.staged = none then (s, .refused .noStaged)
  else
    match v.state with
    | .rolling => (modBooth b (fun v => { v with cutPending := true }) s, .cutover true)
    | .stopping => (modBooth b (fun v => { v with cutPending := true }) s, .cutover true)
    | .empty => (carryOutCutover b s, .cutover false)
    | .ready => (carryOutCutover b s, .cutover false)
    | .held => (carryOutCutover b s, .cutover false)
    | .done => (carryOutCutover b s, .cutover false)

/-- PASS-CUTOVER as it is taken (R73). -/
def handlePassCutover (body : List Byte) : Handler := onRead (readBooth body) cutover

/-- PASS-DISCARD's effect (R74). -/
def discard (b : BoothId) : Handler := fun s =>
  let ids := passCues (s.booth b).staged
  (modBooth b (fun v => { v with staged := none, cutPending := false }) (modCues ids (Cue.clearStaged b) s),
    .entryCount ids.length)

/-- PASS-DISCARD as it is taken (R74). -/
def handlePassDiscard (body : List Byte) : Handler := onRead (readBooth body) discard

/-! ## Stop, abort and clear (R79, R81, R82) -/

/-- The live entry whose take is OPEN (R79). -/
def openEntry (b : BoothId) (s : State) : Option LiveEntry :=
  (s.booth b).window.find? fun e => decide (entryTakeState e s = some .opened)

/-- The window is closed but for one entry (R79, R108). -/
def closeOthers (b : BoothId) (kept : LiveEntry) (s : State) : State :=
  ((s.booth b).window.filter fun e => decide (e.cueId ≠ kept.cueId)).foldl
    (fun s' e => closeEntry b (lastTakenPos b s) none e s') s

/-- The window is closed as a roll break closes it, against the booth's last taken position (R108). -/
def closeAtLast (b : BoothId) (s : State) : State := closeWindow b (lastTakenPos b s) none s

/-- PASS-STOP's own check and effect (R79). -/
def stopPass (b : BoothId) : Handler := fun s =>
  match (s.booth b).state with
  | .empty => (s, .refused .wrongState)
  | .done => (s, .refused .wrongState)
  | .ready => (leaveTo b .done .stop s, .stop false)
  | .held => (leaveTo b .done .stop s, .stop false)
  | .stopping => (s, .stop true)
  | .rolling =>
    match openEntry b s with
    | some e => (enterState b .stopping .stop (closeOthers b e s), .stop true)
    | none => (leaveTo b .done .stop (closeAtLast b s), .stop false)

/-- PASS-STOP as it is taken (R79). -/
def handlePassStop (body : List Byte) : Handler := onRead (readBooth body) stopPass

/-- PASS-ABORT's own check and effect (R81). -/
def abortPass (b : BoothId) : Handler := fun s =>
  match (s.booth b).state with
  | .empty => (s, .refused .wrongState)
  | .done => (s, .refused .wrongState)
  | .ready => (leaveTo b .done .abort s, .ok)
  | .held => (leaveTo b .done .abort s, .ok)
  | .rolling => (leaveTo b .done .abort (closeAtLast b s), .ok)
  | .stopping => (leaveTo b .done .abort (closeAtLast b s), .ok)

/-- PASS-ABORT as it is taken (R81). -/
def handlePassAbort (body : List Byte) : Handler := onRead (readBooth body) abortPass

/-- The active pass is emptied, the active flags of its cues cleared, and the booth enters EMPTY (R53, R82). -/
def emptyActive (b : BoothId) (s : State) : State :=
  enterState b .empty .clear
    (modBooth b (fun v => { v with active := none })
      (modCues (passCues (s.booth b).active) (Cue.clearActive b) s))

/-- PASS-CLEAR's own check and effect (R82). -/
def clearPass (b : BoothId) : Handler := fun s =>
  let count := (passCues (s.booth b).active).length
  match (s.booth b).state with
  | .ready => (emptyActive b s, .entryCount count)
  | .done => (emptyActive b s, .entryCount count)
  | .empty => (s, .refused .wrongState)
  | .rolling => (s, .refused .wrongState)
  | .held => (s, .refused .wrongState)
  | .stopping => (s, .refused .wrongState)

/-- PASS-CLEAR as it is taken (R82). -/
def handlePassClear (body : List Byte) : Handler := onRead (readBooth body) clearPass

/-! ## Hold and release (R83, R84) -/

/-- BOOTH-HOLD's own check and effect (R83). -/
def holdBooth (b : BoothId) : Handler := fun s =>
  match (s.booth b).state with
  | .empty => (s, .refused .wrongState)
  | .stopping => (s, .refused .wrongState)
  | .done => (s, .refused .wrongState)
  | .held => (s, .ok)
  | .ready => (leaveTo b .held .hold s, .ok)
  | .rolling => (leaveTo b .held .hold (closeAtLast b s), .ok)

/-- BOOTH-HOLD as it is taken (R83). -/
def handleBoothHold (body : List Byte) : Handler := onRead (readBooth body) holdBooth

/-- BOOTH-RELEASE's own check and effect (R84). -/
def releaseBooth (b : BoothId) : Handler := fun s =>
  if (s.booth b).state = .held then (enterState b .ready .release s, .ok) else (s, .refused .wrongState)

/-- BOOTH-RELEASE as it is taken (R84). -/
def handleBoothRelease (body : List Byte) : Handler := onRead (readBooth body) releaseBooth

/-! ## Meanings -/

/-- PASS_BUILD_RANGE (R63). -/
def execPassBuildRange (tag : Tag) (body : List Byte) (s : State) : Host.Outcome State Fault Refusal :=
  .next (takeRequest 0x0B tag (handlePassBuild body) s)

/-- PASS_BUILD_LIST (R64). -/
def execPassBuildList (tag : Tag) (body : List Byte) (s : State) : Host.Outcome State Fault Refusal :=
  .next (takeRequest 0x0B tag (handlePassBuild body) s)

/-- PASS_GET (R67). -/
def execPassGet (tag : Tag) (body : List Byte) (s : State) : Host.Outcome State Fault Refusal :=
  .next (takeRequest 0x0C tag (handlePassGet body) s)

/-- PASS_CUTOVER (R73). -/
def execPassCutover (tag : Tag) (body : List Byte) (s : State) : Host.Outcome State Fault Refusal :=
  .next (takeRequest 0x0D tag (handlePassCutover body) s)

/-- PASS_DISCARD (R74). -/
def execPassDiscard (tag : Tag) (body : List Byte) (s : State) : Host.Outcome State Fault Refusal :=
  .next (takeRequest 0x0E tag (handlePassDiscard body) s)

/-- PASS_STOP (R79). -/
def execPassStop (tag : Tag) (body : List Byte) (s : State) : Host.Outcome State Fault Refusal :=
  .next (takeRequest 0x0F tag (handlePassStop body) s)

/-- PASS_ABORT (R81). -/
def execPassAbort (tag : Tag) (body : List Byte) (s : State) : Host.Outcome State Fault Refusal :=
  .next (takeRequest 0x10 tag (handlePassAbort body) s)

/-- PASS_CLEAR (R82). -/
def execPassClear (tag : Tag) (body : List Byte) (s : State) : Host.Outcome State Fault Refusal :=
  .next (takeRequest 0x11 tag (handlePassClear body) s)

/-- BOOTH_HOLD (R83). -/
def execBoothHold (tag : Tag) (body : List Byte) (s : State) : Host.Outcome State Fault Refusal :=
  .next (takeRequest 0x12 tag (handleBoothHold body) s)

/-- BOOTH_RELEASE (R84). -/
def execBoothRelease (tag : Tag) (body : List Byte) (s : State) : Host.Outcome State Fault Refusal :=
  .next (takeRequest 0x13 tag (handleBoothRelease body) s)

end Sys2Proof.Machine
end

