-- ==== Sys2Proof/Machine/Reels.lean ====
section
/-! DEFINITION. Machine/Reels.lean: the reel requests (R12 to R15). -/

namespace Sys2Proof.Machine

/-- The most reel records the map holds (R10). -/
def reelPlaces : Nat := 12

/-- The map holds a record with a reel id. -/
def reelHeld (id : Nat) (s : State) : Bool := s.reels.any fun r => decide (r.id = id)

/-- A cue lies in a reel (R11). -/
def reelInUse (id : Nat) (s : State) : Bool := s.cues.any fun c => decide (c.reel = id)

/-- The new span overlaps that of a record other than the one with its id (R12 step 3). -/
def reelOverlaps (r : Reel) (s : State) : Bool :=
  s.reels.any fun x => decide (x.id ≠ r.id) && overlaps x.start x.stop r.start r.stop

/-- A record stored in ascending reel id, in place of one with its id (R10, R12). -/
def storeReel (r : Reel) (rs : List Reel) : List Reel :=
  match rs with
  | [] => [r]
  | x :: rest =>
    if r.id < x.id then r :: x :: rest
    else if r.id = x.id then r :: rest
    else x :: storeReel r rest

/-- REEL-DEFINE's own checks and effect (R12, R14). -/
def defineReel (r : Reel) : Handler := fun s =>
  if reelHeld r.id s = true ∧ reelInUse r.id s = true then (s, .refused .reelInUse)
  else if reelOverlaps r s then (s, .refused .reelOverlap)
  else if reelHeld r.id s = false ∧ reelPlaces ≤ s.reels.length then (s, .refused .reelTableFull)
  else ({ s with reels := storeReel r s.reels }, .reel r)

/-- REEL-DEFINE as it is taken (R12). -/
def handleReelDefine (body : List Byte) : Handler := fun s =>
  onRead (readReelDefine s.stage.rate body) defineReel s

/-- REEL-DROP's own checks and effect (R13). -/
def dropReel (id : Nat) : Handler := fun s =>
  if reelHeld id s = false then (s, .refused .noSuchReel)
  else if reelInUse id s then (s, .refused .reelInUse)
  else ({ s with reels := s.reels.filter fun r => decide (r.id ≠ id) }, .ok)

/-- REEL-DROP as it is taken (R13). -/
def handleReelDrop (body : List Byte) : Handler := onRead (readReelId body) dropReel

/-- REEL-LIST as it is taken (R15). -/
def handleReelList (body : List Byte) : Handler := onRead (readNone body) fun _ s => (s, .reels s.reels)

/-- REEL_DEFINE (R12). -/
def execReelDefine (tag : Tag) (body : List Byte) (s : State) : Host.Outcome State Fault Refusal :=
  .next (takeRequest 0x01 tag (handleReelDefine body) s)

/-- REEL_DROP (R13). -/
def execReelDrop (tag : Tag) (body : List Byte) (s : State) : Host.Outcome State Fault Refusal :=
  .next (takeRequest 0x02 tag (handleReelDrop body) s)

/-- REEL_LIST (R15). -/
def execReelList (tag : Tag) (body : List Byte) (s : State) : Host.Outcome State Fault Refusal :=
  .next (takeRequest 0x03 tag (handleReelList body) s)

end Sys2Proof.Machine
end

