-- ==== Sys2Proof/Machine/Takes.lean ====
section
/-! DEFINITION. Machine/Takes.lean: the requests on tracks and takes (R125, R134 to R138). -/

namespace Sys2Proof.Machine

/-! ## TRACK-GET (R125) -/

/-- TRACK-GET's reply: up to 16 spans of a track from a start index (R125). -/
def getTrack (r : Nat × Nat) : Handler := fun s =>
  let spans := s.spans.filter fun x => decide (x.track = r.1)
  let found := spans.drop (r.2 - 1)
  (s, .track r.1 spans.length (found.take 16) (decide (16 < found.length)))

/-- TRACK-GET as it is taken (R125). -/
def handleTrackGet (body : List Byte) : Handler := onRead (readTrackGet body) getTrack

/-! ## TAKE-MARK and TAKE-DROP (R134, R135) -/

/-- The circled value after an operation (R134). -/
def SetOp.apply (op : SetOp) (v : Bool) : Bool :=
  match op with
  | .set => true
  | .clear => false
  | .invert => !v

/-- A take that would be circled outside the closed states (R134 check 3). -/
def notMarkable (op : SetOp) (t : Take) : Bool := op.apply t.circled && !t.state.isClosed

/-- The operation applied to every named take in one event (R134). -/
def circleTakes (op : SetOp) (serials : List Nat) (s : State) : State :=
  let records := s.log.records.map fun t =>
    if serials.contains t.serial then { t with circled := op.apply t.circled } else t
  { s with log := { s.log with records := records } }

/-- TAKE-MARK's own checks and effect (R134). -/
def markTakes (r : SetOp × List Nat) : Handler := fun s =>
  match r.2.find? (fun n => (findTake n s).isNone) with
  | some n => (s, .refusedTake .noSuchTake n)
  | none =>
    match r.2.find? (fun n => ((findTake n s).map (notMarkable r.1)).getD false) with
    | some n => (s, .refusedTake .notMarkable n)
    | none =>
      let marked := circleTakes r.1 r.2 s
      (marked, .marks (r.2.map fun n => (n, ((findTake n marked).map (·.circled)).getD false)))

/-- TAKE-MARK as it is taken (R134). -/
def handleTakeMark (body : List Byte) : Handler := onRead (readTakeMark body) markTakes

/-- TAKE-DROP's own checks and effect (R135). -/
def dropTake (serial : Nat) : Handler := fun s =>
  match findTake serial s with
  | none => (s, .refused .noSuchTake)
  | some t =>
    match t.state with
    | .planned | .opened | .withdrawing => (s, .refused .takeLive)
    | .failed | .overwritten | .dropped => (s, .refused .wrongState)
    | .kept | .truncated | .aborted =>
      if t.circled then (s, .refused .takeCircled)
      else (endTake serial .dropped none s, .dropped serial t.track t.spanEnd)

/-- TAKE-DROP as it is taken (R135). -/
def handleTakeDrop (body : List Byte) : Handler := onRead (readSerial body) dropTake

/-! ## LOG-SEEK and LOG-READ (R136 to R138) -/

/-- The held records at or above the bound, in ascending serial (R136, R138). -/
def aheadOf (l : TakeLog) : List Take := l.records.filter fun t => decide (l.bound ≤ t.serial)

/-- The serial of the record under the cursor, or none at end (R136). -/
def underCursor (l : TakeLog) : Option Nat := (aheadOf l).head?.map (·.serial)

/-- The bound that a LOG-SEEK sets (R137). -/
def seekBound (t : SeekTarget) (l : TakeLog) : Nat :=
  match t with
  | .oldest => 1
  | .newest => (l.records.getLast?.map (·.serial)).getD l.counter
  | .serial n => n

/-- LOG-SEEK's effect (R137). -/
def seekLog (t : SeekTarget) : Handler := fun s =>
  let log := { s.log with bound := seekBound t s.log }
  ({ s with log := log }, .seek (underCursor log))

/-- LOG-SEEK as it is taken (R137). -/
def handleLogSeek (body : List Byte) : Handler := onRead (readLogSeek body) seekLog

/-- LOG-READ's effect (R138). -/
def readLog (count : Nat) : Handler := fun s =>
  let ahead := aheadOf s.log
  let given := ahead.take count
  let bound := (given.getLast?.map (·.serial + 1)).getD s.log.bound
  ({ s with log := { s.log with bound := bound } },
    .log given (decide (ahead.length ≤ count)) (s.log.records.head?.map (·.serial)))

/-- LOG-READ as it is taken (R138). -/
def handleLogRead (body : List Byte) : Handler := onRead (readLogCount body) readLog

/-! ## Meanings -/

/-- TRACK_GET (R125). -/
def execTrackGet (tag : Tag) (body : List Byte) (s : State) : Host.Outcome State Fault Refusal :=
  .next (takeRequest 0x14 tag (handleTrackGet body) s)

/-- TAKE_MARK_SET (R134). -/
def execTakeMarkSet (tag : Tag) (body : List Byte) (s : State) : Host.Outcome State Fault Refusal :=
  .next (takeRequest 0x15 tag (handleTakeMark body) s)

/-- TAKE_MARK_CLEAR (R134). -/
def execTakeMarkClear (tag : Tag) (body : List Byte) (s : State) : Host.Outcome State Fault Refusal :=
  .next (takeRequest 0x15 tag (handleTakeMark body) s)

/-- TAKE_MARK_INVERT (R134). -/
def execTakeMarkInvert (tag : Tag) (body : List Byte) (s : State) : Host.Outcome State Fault Refusal :=
  .next (takeRequest 0x15 tag (handleTakeMark body) s)

/-- TAKE_DROP (R135). -/
def execTakeDrop (tag : Tag) (body : List Byte) (s : State) : Host.Outcome State Fault Refusal :=
  .next (takeRequest 0x16 tag (handleTakeDrop body) s)

/-- LOG_SEEK_OLDEST (R137). -/
def execLogSeekOldest (tag : Tag) (body : List Byte) (s : State) : Host.Outcome State Fault Refusal :=
  .next (takeRequest 0x17 tag (handleLogSeek body) s)

/-- LOG_SEEK_NEWEST (R137). -/
def execLogSeekNewest (tag : Tag) (body : List Byte) (s : State) : Host.Outcome State Fault Refusal :=
  .next (takeRequest 0x17 tag (handleLogSeek body) s)

/-- LOG_SEEK_SERIAL (R137). -/
def execLogSeekSerial (tag : Tag) (body : List Byte) (s : State) : Host.Outcome State Fault Refusal :=
  .next (takeRequest 0x17 tag (handleLogSeek body) s)

/-- LOG_READ (R138). -/
def execLogRead (tag : Tag) (body : List Byte) (s : State) : Host.Outcome State Fault Refusal :=
  .next (takeRequest 0x18 tag (handleLogRead body) s)

end Sys2Proof.Machine
end

