-- ==== Sys2Proof/Machine/Receiver.lean ====
section
/-! DEFINITION. Machine/Receiver.lean: the receiver of the control link (R175, R176), and the frames that reach the
intake outside the request rows (R177, R178, R187). -/

namespace Sys2Proof.Machine

/-! ## Frames by their kind (R191) -/

/-- The owner's taking of a request of a kind (R177, section 10.6); any other kind is refused UNKNOWN_KIND (R178). -/
def handlerOf (kind : Byte) (body : List Byte) : Handler :=
  match kind.toNat with
  | 0x01 => handleReelDefine body
  | 0x02 => handleReelDrop body
  | 0x03 => handleReelList body
  | 0x04 => handleStageSet body
  | 0x05 => handleStageGet body
  | 0x06 => handleCuePut body
  | 0x07 => handleCueAmend body
  | 0x08 => handleCueDrop body
  | 0x09 => handleCueGet body
  | 0x0A => handleCueList body
  | 0x0B => handlePassBuild body
  | 0x0C => handlePassGet body
  | 0x0D => handlePassCutover body
  | 0x0E => handlePassDiscard body
  | 0x0F => handlePassStop body
  | 0x10 => handlePassAbort body
  | 0x11 => handlePassClear body
  | 0x12 => handleBoothHold body
  | 0x13 => handleBoothRelease body
  | 0x14 => handleTrackGet body
  | 0x15 => handleTakeMark body
  | 0x16 => handleTakeDrop body
  | 0x17 => handleLogSeek body
  | 0x18 => handleLogRead body
  | 0x19 => handleBoothSet body
  | 0x1A => handleBoothFilter body
  | 0x1B => handleBoothGet body
  | 0x1C => handleLineGet body
  | 0x1D => handleNoticeSet body
  | 0x1E => handleStatus body
  | 0x1F => handleIdent body
  | 0x20 => handleRestart body
  | _ => answer (.refused .unknownKind)

/-- A well-framed frame arrives (R177). -/
def arrive (kind : Byte) (tag : Tag) (body : List Byte) (s : State) : State :=
  takeRequest kind tag (handlerOf kind body) s

/-! ## The receiver (R175, R176) -/

/-- What the bytes from a marker on are found to be (R175, R176). -/
inductive Candidate where
  | partly
  | faulty (fault : FrameFault)
  | framed (kind : Byte) (tag : Tag) (body : List Byte) (rest : List Byte)
  deriving DecidableEq, Repr

/-- The bytes after the length byte, read as the rest of a frame with that body length (R175). -/
def readRest (length : Byte) (bytes : List Byte) : Candidate :=
  let n := length.toNat
  if bytes.length < n + 4 then .partly
  else if byteSum (length :: bytes.take (n + 4)) ≠ 0 then .faulty .check
  else
    .framed (bytes.getD 0 0) (bytes.getD 1 0 ++ bytes.getD 2 0) ((bytes.drop 3).take n) (bytes.drop (n + 4))

/-- The bytes after a marker, read as a candidate frame (R175, R176). -/
def readCandidate (bytes : List Byte) : Candidate :=
  match bytes with
  | [] => .partly
  | length :: rest => if 240 < length.toNat then .faulty .length else readRest length rest

/-- The receiver collects the bytes from a marker on (R176). -/
def collecting (bytes : List Byte) (s : State) : State := { s with ctl := { s.ctl with receiver := .frame bytes } }

/-- A frame fault: the receiver returns to HUNT, and one LINK notice is posted in a run of faults (R176). -/
def frameFaulted (fault : FrameFault) (s : State) : State :=
  let hunting := { s with ctl := { s.ctl with receiver := .hunt, faultRun := true } }
  if s.ctl.faultRun then hunting else postNotice .receiver (.link fault) hunting

/-- The receiver searches bytes: it discards each until a marker, reads the candidate from there, takes a well-framed
frame and goes on behind it, and after a fault goes on at the byte behind the marker (R176). Each turn uses at least
one byte. -/
def search : Nat → List Byte → State → State
  | 0, _, s => s
  | _ + 1, [], s => s
  | n + 1, b :: rest, s =>
    if b = 0xC5 then
      match readCandidate rest with
      | .partly => collecting (b :: rest) s
      | .faulty fault => search n rest (conclude (frameFaulted fault s))
      | .framed kind tag body later => search n later (arrive kind tag body s)
    else search n rest s

/-- The bytes the receiver has collected (R176). -/
def collected (r : Receiver) : List Byte :=
  match r with
  | .hunt => []
  | .frame bytes => bytes

/-- Bytes arrive on the control link and join those collected (R176; entry 5). -/
def bytesArrive (bytes : List Byte) (s : State) : State :=
  let all := collected s.ctl.receiver ++ bytes
  search (all.length + 1) all { s with ctl := { s.ctl with receiver := .hunt } }

/-- The gap timer expires: the candidate is discarded, and the search goes on at the byte behind its marker (R176). In
HUNT the timer is stopped (entry 22). -/
def gapExpires (s : State) : State :=
  match s.ctl.receiver with
  | .hunt => s
  | .frame bytes => search (bytes.length + 1) (bytes.drop 1) (conclude (frameFaulted .gap s))

/-! ## Meanings -/

/-- FRAME_FAULT (R176). -/
def execFrameFault (bytes : List Byte) (s : State) : Host.Outcome State Fault Refusal :=
  .next (conclude (bytesArrive bytes s))

/-- GAP_TIMER_EXPIRY (R176). -/
def execGapTimerExpiry (s : State) : Host.Outcome State Fault Refusal := .next (conclude (gapExpires s))

/-- BUSY (R177): a well-framed frame, answered BUSY while a request is in hand. -/
def execBusy (kind : Byte) (tag : Tag) (body : List Byte) (s : State) : Host.Outcome State Fault Refusal :=
  .next (takeRequest kind tag (handlerOf kind body) s)

/-- RESTARTING_DISCARD (R187): a well-framed frame, discarded while the intake is RESTARTING. -/
def execRestartingDiscard (kind : Byte) (tag : Tag) (body : List Byte) (s : State) : Host.Outcome State Fault Refusal :=
  .next (takeRequest kind tag (handlerOf kind body) s)

/-- UNKNOWN_KIND (R178): a well-framed frame whose kind is not that of a request. -/
def execUnknownKind (kind : Byte) (tag : Tag) (body : List Byte) (s : State) : Host.Outcome State Fault Refusal :=
  .next (takeRequest kind tag (handlerOf kind body) s)

end Sys2Proof.Machine
end

