-- ==== Sys2Proof/Machine/Recorder.lean ====
section
/-! DEFINITION. Machine/Recorder.lean: the recorder's answers and flow words, the awaiting entries' expiries, and the
sending of orders (R110, R132, R151 to R158). -/

namespace Sys2Proof.Machine

/-! ## What an answer does to a take (R110, R132) -/

/-- A DONE to a PUNCH-IN sets recorder in (R132). -/
def recordIn (serial actual : Nat) (s : State) : State :=
  writeAnswer serial (fun t => { t with recIn := some actual }) (fun _ => true) s

/-- Recorder out is set: it is absent or holds a greater frame (R132). -/
def outSets (actual : Nat) (t : Take) : Bool :=
  match t.recOut with
  | none => true
  | some f => decide (actual < f)

/-- A DONE to a PUNCH-OUT or PUNCH-OUT NOW sets recorder out, and adds LATE_OUT when it is later than the order named
(R132, R156). -/
def recordOut (serial actual : Nat) (late : Bool) (s : State) : State :=
  writeAnswer serial
    (fun t => { t with recOut := if outSets actual t then some actual else t.recOut,
                       flags := { t.flags with lateOut := t.flags.lateOut || late } })
    (fun t => outSets actual t || (late && !t.flags.lateOut)) s

/-- UNCONFIRMED_IN is added (R132, R155). -/
def flagIn (serial : Nat) (s : State) : State :=
  writeAnswer serial (fun t => { t with flags := { t.flags with unconfirmedIn := true } })
    (fun t => !t.flags.unconfirmedIn) s

/-- UNCONFIRMED_OUT is added (R132, R155, R157). -/
def flagOut (serial : Nat) (s : State) : State :=
  writeAnswer serial (fun t => { t with flags := { t.flags with unconfirmedOut := true } })
    (fun t => !t.flags.unconfirmedOut) s

/-- A DONE to the CANCEL of a take's PUNCH-IN: a WITHDRAWING take becomes FAILED with BROKEN (R110). -/
def cancelConfirmed (serial : Nat) (s : State) : State :=
  if takeStateOf serial s = some .withdrawing then endTake serial .failed (some .broken) s else s

/-- A REFUSED to the CANCEL of a take's PUNCH-IN, or its expiry: a WITHDRAWING take becomes TRUNCATED, and its booth
raises PUNCH-OUT NOW (R110). -/
def cancelUnconfirmed (serial : Nat) (s : State) : State :=
  match findTake serial s with
  | none => s
  | some t =>
    if t.state = .withdrawing then
      truncateTake serial t.closing (raiseStop (.punchOutNow t.track) (some t.booth) (some serial) none none s)
    else s

/-- The live entry that holds a take. -/
def holderOf (b : BoothId) (serial : Nat) (s : State) : Option LiveEntry :=
  (s.booth b).window.find? fun e => decide (e.take.map (·.serial) = some serial)

/-- A booth learns that the recorder refused the PUNCH-IN of a take of its window (R80, R103). -/
def boothLosesTake (b : BoothId) (serial : Nat) (s : State) : State :=
  match holderOf b serial s with
  | none => s
  | some e => if (s.booth b).state = .stopping then finishStopping b e s else takeLost b e.cueId s

/-- A REFUSED to a take's PUNCH-IN: a live take becomes FAILED with REFUSED, and its booth acts (R103, R110, R157). -/
def punchInRefused (serial : Nat) (s : State) : State :=
  match findTake serial s with
  | none => s
  | some t => if t.state.isLive then boothLosesTake t.booth serial (failTake serial .refused s) else s

/-! ## Answers (R156 to R158) -/

/-- A stray answer (R158). -/
def strayAnswer (tag : Option Tag) (kind : Option AnswerKind) (s : State) : State :=
  postNotice .recorder (.recStray tag kind) s

/-- The effect on a take, when the order was raised for one. -/
def onTake (take : Option Nat) (f : Nat → State → State) (s : State) : State :=
  match take with
  | some serial => f serial s
  | none => s

/-- What a DONE does, by the kind of the order (R156). A CANCEL with a take serial names a PUNCH-IN (R143). -/
def doneEffect (o : Order) (actual : Nat) (s : State) : State :=
  match o.body with
  | .punchIn _ _ => onTake o.take (fun n => recordIn n actual) s
  | .punchOut _ frame => onTake o.take (fun n => recordOut n actual (decide (frame < actual))) s
  | .punchOutNow _ => onTake o.take (fun n => recordOut n actual false) s
  | .cancel target => onTake o.take cancelConfirmed (removeAwaiting target s)
  | .play _ _ _ => s
  | .haltAll => s

/-- A DONE arrives (R144, R156, R158). -/
def doneArrives (tag : Tag) (actual : Word32) (s : State) : State :=
  if s.stage.rate.perDay ≤ actual.toNat then strayAnswer (some tag) (some .done) s
  else
    match findAwaiting tag s with
    | none => strayAnswer (some tag) (some .done) s
    | some a => doneEffect a.order actual.toNat (removeAwaiting tag s)

/-- What a REFUSED does, by the kind of the order (R157). -/
def refusedEffect (o : Order) (s : State) : State :=
  match o.body with
  | .punchIn _ _ => onTake o.take punchInRefused s
  | .punchOut _ _ => onTake o.take flagOut s
  | .punchOutNow _ => onTake o.take flagOut s
  | .cancel _ => onTake o.take cancelUnconfirmed s
  | .play _ _ _ => s
  | .haltAll => s

/-- A REFUSED arrives (R157, R158, R162). -/
def refusedArrives (tag : Tag) (reason : RefusedReason) (s : State) : State :=
  match findAwaiting tag s with
  | none => strayAnswer (some tag) (some .refused) s
  | some a =>
    refusedEffect a.order
      (postNotice .recorder (.recRefused tag a.order.body.kind reason a.order.booth a.order.take) (removeAwaiting tag s))

/-- A FLOW word arrives (R152). -/
def flowArrives (f : Flow) (s : State) : State :=
  if f = s.link.flow then s else postNotice .recorder (.recFlow f) { s with link := { s.link with flow := f } }

/-- A recorder message arrives as its bytes: one that cannot be read is a stray answer with tag none (R144, R158,
R197). -/
def messageArrives (bytes : List Byte) (s : State) : State :=
  match readMessage bytes with
  | some (.done tag actual) => doneArrives tag actual s
  | some (.refused tag reason) => refusedArrives tag reason s
  | some (.flow f) => flowArrives f s
  | none => strayAnswer none none s

/-! ## Expiry of an awaiting entry (R155) -/

/-- The entry of a tag becomes EXPIRED (R155). -/
def expireAwaiting (tag : Tag) (s : State) : State :=
  { s with link := { s.link with awaiting := s.link.awaiting.map fun a =>
      if a.order.tag = tag then { a with stage := .expired, timer := .stopped } else a } }

/-- What an expiry does, by the kind of the order (R155). -/
def expiryEffect (o : Order) (s : State) : State :=
  match o.body with
  | .punchIn _ _ => onTake o.take flagIn s
  | .punchOut _ _ => onTake o.take flagOut s
  | .punchOutNow _ => onTake o.take flagOut s
  | .cancel _ => onTake o.take cancelUnconfirmed s
  | .play _ _ _ => s
  | .haltAll => s

/-- The timer of a RUNNING entry expires (R155, R162). An entry whose timer does not run does not expire (entry 22). -/
def awaitingExpires (tag : Tag) (s : State) : State :=
  match findAwaiting tag s with
  | none => s
  | some a =>
    if a.stage = .running ∧ a.timer ≠ .stopped then
      expiryEffect a.order
        (postNotice .recorder (.recSilent tag a.order.body.kind a.order.booth a.order.take) (expireAwaiting tag s))
    else s

/-! ## Transmission (R151) -/

/-- An order's transmission ends: the transmitter is idle, and the timer of its awaiting entry starts if its named
frame is reached (R151, R154). With an idle transmitter nothing ends (entry 22). -/
def transmissionEnds (s : State) : State :=
  match s.link.transmitter with
  | none => s
  | some o =>
    { s with link := { s.link with
        transmitter := none
        awaiting := s.link.awaiting.map fun a =>
          if a.order.tag = o.tag then Awaiting.arm s.stage.rate { a with sendEnded := true } else a } }

/-! ## Meanings -/

/-- DONE (R156). -/
def execDone (tag : Tag) (actual : Word32) (s : State) : Host.Outcome State Fault Refusal :=
  .next (conclude (doneArrives tag actual s))

/-- REFUSED (R157). -/
def execRefused (tag : Tag) (reason : RefusedReason) (s : State) : Host.Outcome State Fault Refusal :=
  .next (conclude (refusedArrives tag reason s))

/-- FLOW (R152). -/
def execFlow (value : Flow) (s : State) : Host.Outcome State Fault Refusal := .next (conclude (flowArrives value s))

/-- UNREADABLE_MESSAGE (R158, R197). -/
def execUnreadableMessage (bytes : List Byte) (s : State) : Host.Outcome State Fault Refusal :=
  .next (conclude (messageArrives bytes s))

/-- BEGIN_SEND (R151). -/
def execBeginSend (s : State) : Host.Outcome State Fault Refusal := .next (conclude (beginSending s))

/-- ORDER_TRANSMISSION_END (R151). -/
def execOrderTransmissionEnd (s : State) : Host.Outcome State Fault Refusal := .next (conclude (transmissionEnds s))

/-- AWAITING_EXPIRY (R155). -/
def execAwaitingExpiry (tag : Tag) (s : State) : Host.Outcome State Fault Refusal :=
  .next (conclude (awaitingExpires tag s))

end Sys2Proof.Machine
end

