-- ==== Sys2Proof/Machine/Dispatch.lean ====
section
/-! DEFINITION. Machine/Dispatch.lean: one arm for each command. -/

namespace Sys2Proof.Machine

def exec (i : Instr) (s : State) : Host.Outcome State Fault Refusal :=
  match i with
  | .powerOn => Sys2Proof.Machine.execPowerOn s
  | .positionWord bytes => Sys2Proof.Machine.execPositionWord bytes s
  | .absenceTimerExpiry => Sys2Proof.Machine.execAbsenceTimerExpiry s
  | .freewheelTimerExpiry => Sys2Proof.Machine.execFreewheelTimerExpiry s
  | .noSignalTimerExpiry line => Sys2Proof.Machine.execNoSignalTimerExpiry line s
  | .boothFrameSent line => Sys2Proof.Machine.execBoothFrameSent line s
  | .frameFault bytes => Sys2Proof.Machine.execFrameFault bytes s
  | .gapTimerExpiry => Sys2Proof.Machine.execGapTimerExpiry s
  | .busy kind tag body => Sys2Proof.Machine.execBusy kind tag body s
  | .restartingDiscard kind tag body => Sys2Proof.Machine.execRestartingDiscard kind tag body s
  | .unknownKind kind tag body => Sys2Proof.Machine.execUnknownKind kind tag body s
  | .reelDefine tag body => Sys2Proof.Machine.execReelDefine tag body s
  | .reelDrop tag body => Sys2Proof.Machine.execReelDrop tag body s
  | .reelList tag body => Sys2Proof.Machine.execReelList tag body s
  | .stageSet tag body => Sys2Proof.Machine.execStageSet tag body s
  | .stageGet tag body => Sys2Proof.Machine.execStageGet tag body s
  | .cuePut tag body => Sys2Proof.Machine.execCuePut tag body s
  | .cueAmend tag body => Sys2Proof.Machine.execCueAmend tag body s
  | .cueDrop tag body => Sys2Proof.Machine.execCueDrop tag body s
  | .cueGet tag body => Sys2Proof.Machine.execCueGet tag body s
  | .cueList tag body => Sys2Proof.Machine.execCueList tag body s
  | .passBuildRange tag body => Sys2Proof.Machine.execPassBuildRange tag body s
  | .passBuildList tag body => Sys2Proof.Machine.execPassBuildList tag body s
  | .passGet tag body => Sys2Proof.Machine.execPassGet tag body s
  | .passCutover tag body => Sys2Proof.Machine.execPassCutover tag body s
  | .passDiscard tag body => Sys2Proof.Machine.execPassDiscard tag body s
  | .passStop tag body => Sys2Proof.Machine.execPassStop tag body s
  | .passAbort tag body => Sys2Proof.Machine.execPassAbort tag body s
  | .passClear tag body => Sys2Proof.Machine.execPassClear tag body s
  | .boothHold tag body => Sys2Proof.Machine.execBoothHold tag body s
  | .boothRelease tag body => Sys2Proof.Machine.execBoothRelease tag body s
  | .trackGet tag body => Sys2Proof.Machine.execTrackGet tag body s
  | .takeMarkSet tag body => Sys2Proof.Machine.execTakeMarkSet tag body s
  | .takeMarkClear tag body => Sys2Proof.Machine.execTakeMarkClear tag body s
  | .takeMarkInvert tag body => Sys2Proof.Machine.execTakeMarkInvert tag body s
  | .takeDrop tag body => Sys2Proof.Machine.execTakeDrop tag body s
  | .logSeekOldest tag body => Sys2Proof.Machine.execLogSeekOldest tag body s
  | .logSeekNewest tag body => Sys2Proof.Machine.execLogSeekNewest tag body s
  | .logSeekSerial tag body => Sys2Proof.Machine.execLogSeekSerial tag body s
  | .logRead tag body => Sys2Proof.Machine.execLogRead tag body s
  | .boothSet tag body => Sys2Proof.Machine.execBoothSet tag body s
  | .boothFilterSet tag body => Sys2Proof.Machine.execBoothFilterSet tag body s
  | .boothFilterClear tag body => Sys2Proof.Machine.execBoothFilterClear tag body s
  | .boothFilterInvert tag body => Sys2Proof.Machine.execBoothFilterInvert tag body s
  | .boothGet tag body => Sys2Proof.Machine.execBoothGet tag body s
  | .lineGet tag body => Sys2Proof.Machine.execLineGet tag body s
  | .noticeSet tag body => Sys2Proof.Machine.execNoticeSet tag body s
  | .status tag body => Sys2Proof.Machine.execStatus tag body s
  | .ident tag body => Sys2Proof.Machine.execIdent tag body s
  | .restart tag body => Sys2Proof.Machine.execRestart tag body s
  | .outboundFrameSent => Sys2Proof.Machine.execOutboundFrameSent s
  | .done tag actual => Sys2Proof.Machine.execDone tag actual s
  | .refused tag reason => Sys2Proof.Machine.execRefused tag reason s
  | .flow value => Sys2Proof.Machine.execFlow value s
  | .unreadableMessage bytes => Sys2Proof.Machine.execUnreadableMessage bytes s
  | .beginSend => Sys2Proof.Machine.execBeginSend s
  | .orderTransmissionEnd => Sys2Proof.Machine.execOrderTransmissionEnd s
  | .awaitingExpiry tag => Sys2Proof.Machine.execAwaitingExpiry tag s

end Sys2Proof.Machine
end

