-- ==== Sys2Proof/Machine/Wire.lean ====
section
/-! DEFINITION. Machine/Wire.lean: the bytes of what the part sends, as a view of the state (chapter "Wire formats",
R175, R190 to R197): control frames, booth frames and recorder orders, and the words that come back. -/

namespace Sys2Proof.Machine

/-! ## Encodings shared by all layouts (R190) -/

/-- The low `n` bytes of a number, most significant first (R190). -/
def beBytes : Nat → Nat → List Byte
  | 0, _ => []
  | n + 1, v => BitVec.ofNat 8 (v / 256 ^ n) :: beBytes n v

/-- One byte of a number. -/
def byteOf (n : Nat) : Byte := BitVec.ofNat 8 n

/-- A flag as a byte. -/
def flagByte (v : Bool) : Byte := if v then 1 else 0

/-- A bit of a byte. -/
def bitOf (k : Nat) (v : Bool) : Nat := if v then 2 ^ k else 0

/-- A position, or FFFFFFFFh for none (R190). -/
def positionBytes (p : Option Nat) : List Byte := beBytes 4 (p.getD 0xFFFFFFFF)

/-- A 1-byte value, or FFh for none (R190). -/
def byteOrFF (v : Option Nat) : Byte := byteOf (v.getD 0xFF)

/-- A booth, or 0 for none (R190). -/
def boothByte (b : Option BoothId) : Byte := byteOf ((b.map boothNumber).getD 0)

/-- A serial, or 0 for none (R190). -/
def serialBytes (n : Option Nat) : List Byte := beBytes 4 (n.getD 0)

/-- A cue id, or 0 for none (R190). -/
def cueIdBytes (n : Option Nat) : List Byte := beBytes 2 (n.getD 0)

/-- The cursor: 0 for end, FFh for none (R190). -/
def cursorByte (c : Option (Option Nat)) : Byte :=
  match c with
  | none => 0xFF
  | some none => 0
  | some (some i) => byteOf i

/-- The codes of the chase states (R190). -/
def ChaseState.code (c : ChaseState) : Nat :=
  match c with
  | .noSignal => 0
  | .acquiring => 1
  | .locked => 2
  | .freewheel => 3
  | .parked => 4
  | .winding => 5

/-- The codes of the booth states (R190). -/
def BoothState.code (v : BoothState) : Nat :=
  match v with
  | .empty => 0
  | .ready => 1
  | .rolling => 2
  | .held => 3
  | .stopping => 4
  | .done => 5

/-- The codes of the modes (R190). -/
def Mode.code (m : Mode) : Nat :=
  match m with
  | .rehearse => 0
  | .record => 1
  | .review => 2

/-- The codes of the policies (R190). -/
def Policy.code (p : Policy) : Nat :=
  match p with
  | .once => 0
  | .repeated => 1

/-- The codes of the guides (R192). -/
def Guide.code (g : Guide) : Nat :=
  match g with
  | .none => 0
  | .lead => 1
  | .full => 2

/-- The codes of the take states (R190). -/
def TakeState.code (t : TakeState) : Nat :=
  match t with
  | .planned => 0
  | .opened => 1
  | .withdrawing => 2
  | .kept => 3
  | .truncated => 4
  | .aborted => 5
  | .failed => 6
  | .overwritten => 7
  | .dropped => 8

/-- The codes of the failure reasons, 0 for none (R190). -/
def reasonCode (r : Option FailReason) : Nat :=
  match r with
  | none => 0
  | some .lateIn => 1
  | some .queueFull => 2
  | some .freewheel => 3
  | some .refused => 4
  | some .broken => 5
  | some .restart => 6

/-- The codes of the flow (R194, R197). -/
def flowCode (f : Flow) : Nat :=
  match f with
  | .ready => 1
  | .hold => 2

/-- The codes of the recorder's reasons (R197). -/
def reasonByteCode (r : RefusedReason) : Nat :=
  match r with
  | .badTrack => 1
  | .trackBusy => 2
  | .tooLate => 3
  | .notReady => 4

/-- The codes of the order kinds; both forms of PUNCH-OUT have the code of PUNCH-OUT (R197; entry 10). -/
def OrderKind.code (k : OrderKind) : Nat :=
  match k with
  | .punchIn => 1
  | .punchOut => 2
  | .punchOutNow => 2
  | .play => 3
  | .cancel => 4
  | .haltAll => 5

/-- The codes of the answer kinds, FFh for none (R191, R197). -/
def answerCode (k : Option AnswerKind) : Nat :=
  match k with
  | none => 0xFF
  | some .done => 1
  | some .refused => 2

/-- The codes of the break causes, FFh for none (R32, R190). -/
def breakCode (c : Option BreakCause) : Nat :=
  match c with
  | none => 0xFF
  | some .relocate => 0
  | some .park => 1
  | some .wind => 2
  | some .signalLost => 3
  | some .stage => 4

/-- The codes of the word faults (R18, R190). -/
def WordFault.code (w : WordFault) : Nat :=
  match w with
  | .form => 0
  | .rate => 1
  | .label => 2

/-- The codes of the causes of a BOOTH notice (R85, R190). -/
def BoothCause.code (c : BoothCause) : Nat :=
  match c with
  | .cutover => 0
  | .roll => 1
  | .broken => 2
  | .runOut => 3
  | .hold => 4
  | .release => 5
  | .stop => 6
  | .abort => 7
  | .complete => 8
  | .limit => 9
  | .takeClosed => 10
  | .clear => 11

/-- The codes of the step-over reasons (R99, R190). -/
def StepReason.code (r : StepReason) : Nat :=
  match r with
  | .late => 0
  | .clash => 1
  | .crowded => 2
  | .noTake => 3
  | .takesExhausted => 4
  | .noTrack => 5
  | .spanPoolFull => 6
  | .queueFull => 7

/-- The codes of the frame faults (R176, R190). -/
def FrameFault.code (f : FrameFault) : Nat :=
  match f with
  | .length => 0
  | .gap => 1
  | .check => 2

/-- The codes of the reset causes (R191). -/
def ResetCause.code (c : ResetCause) : Nat :=
  match c with
  | .powerOn => 0
  | .restart => 1

/-- The codes of the results but OK, which is 00h (R191). -/
def ResultCode.code (r : ResultCode) : Nat :=
  match r with
  | .unknownKind => 0x01
  | .badLength => 0x02
  | .badValue => 0x03
  | .wrongState => 0x04
  | .rateLocked => 0x05
  | .reelOverlap => 0x06
  | .reelTableFull => 0x07
  | .reelInUse => 0x08
  | .noSuchReel => 0x09
  | .offReel => 0x0A
  | .cueTableFull => 0x0B
  | .cueInPass => 0x0C
  | .cueHasTakes => 0x0D
  | .noSuchCue => 0x0E
  | .cueOverlap => 0x0F
  | .passFull => 0x10
  | .passEmpty => 0x11
  | .noStaged => 0x12
  | .noSuchTake => 0x13
  | .notMarkable => 0x14
  | .takeCircled => 0x15
  | .takeLive => 0x16

/-- A notice class set in one byte (R190). -/
def ClassSet.byte (c : ClassSet) : Byte :=
  byteOf (bitOf 0 c.chase + bitOf 1 c.booth + bitOf 2 c.cue + bitOf 3 c.take + bitOf 4 c.recorder + bitOf 5 c.link)

/-! ## Records (R190, R192, R193) -/

/-- A reel label: its length, its characters and the fill (R190). -/
def labelBytes (label : List Byte) : List Byte :=
  byteOf label.length :: (label ++ List.replicate (8 - label.length) 0x20)

/-- A reel record in the layout of REEL-DEFINE (R195). -/
def reelBytes (r : Reel) : List Byte := byteOf r.id :: (beBytes 4 r.start ++ beBytes 4 r.length ++ labelBytes r.label)

/-- The track set in six bytes (R192). -/
def trackSetBytes (ts : List Nat) : List Byte := ts.map byteOf ++ List.replicate (6 - ts.length) 0

/-- A beep pattern in three bytes (R192). -/
def beepBytes (b : Beep) : List Byte := [byteOf b.count, byteOf b.spacing, byteOf b.length]

/-- Byte 17 of a cue record: presence and guide (R192). -/
def presenceByte (f : CueFields) : Byte :=
  byteOf (bitOf 0 f.streamer.isSome + bitOf 1 f.beep.isSome + bitOf 2 f.guide.isSome + bitOf 3 f.scriptRef.isSome +
    16 * ((f.guide.map Guide.code).getD 0))

/-- The host's fields of a cue record, 26 bytes (R192). -/
def cueFieldBytes (f : CueFields) : List Byte :=
  beBytes 2 f.id ++ beBytes 4 f.inPos ++ beBytes 4 f.outPos ++ [byteOf f.character] ++ trackSetBytes f.tracks ++
    [presenceByte f, byteOf (f.streamer.getD 0)] ++ (f.beep.map beepBytes).getD [0, 0, 0] ++
    beBytes 4 (f.scriptRef.getD 0)

/-- The pass mark in one byte (R192). -/
def markByte (m : Option Mark) : Byte :=
  match m with
  | none => 0
  | some m => byteOf (boothNumber m.booth + bitOf 4 m.active + bitOf 5 m.staged)

/-- A cue record, 29 bytes (R192). -/
def cueBytes (c : Cue) : List Byte := cueFieldBytes c.fields ++ [byteOf c.reel, byteOf c.nextTake, markByte c.mark]

/-- Byte 7 of a take record: booth and flags (R193). -/
def takeFlagByte (t : Take) : Byte :=
  byteOf (boothNumber t.booth + bitOf 4 t.flags.unconfirmedIn + bitOf 5 t.flags.unconfirmedOut + bitOf 6 t.flags.lateOut)

/-- Byte 9 of a take record: state, reason and circled (R193). -/
def takeStateByte (t : Take) : Byte := byteOf (t.state.code + 16 * reasonCode t.reason + bitOf 7 t.circled)

/-- A take record, 27 bytes (R193). -/
def takeBytes (t : Take) : List Byte :=
  beBytes 4 t.serial ++ beBytes 2 t.cue ++ [byteOf t.number, takeFlagByte t, byteOf t.track, takeStateByte t] ++
    beBytes 4 t.plannedStart ++ beBytes 2 (t.plannedEnd - t.plannedStart) ++
    beBytes 2 ((t.spanEnd.map (· - t.plannedStart)).getD 0xFFFF) ++ positionBytes t.recIn ++ positionBytes t.recOut ++
    [byteOrFF (t.closing.map (t.plannedStart - ·))]

/-! ## Booth frames (R196) -/

/-- Byte 18 of a booth frame (R196). -/
def gateByte (c : FrameContent) : Byte :=
  byteOf (bitOf 0 c.beep + bitOf 1 c.lamp + bitOf 2 c.guide + bitOf 3 c.scriptRef.isSome + bitOf 4 c.countdown.isSome)

/-- A booth frame's bytes between the marker and the check (R196). -/
def boothFrameFields (f : BoothFrame) : List Byte :=
  let c := f.content
  [f.sequence, byteOf c.picture.code, byteOf c.boothState.code] ++ positionBytes c.display ++
    [byteOf (c.reel.getD 0)] ++ cueIdBytes c.frontCue ++ [byteOrFF c.character] ++ beBytes 4 (c.scriptRef.getD 0) ++
    beBytes 2 (c.streamer.getD 0xFFFF) ++ [gateByte c, byteOf (c.countdown.getD 0), byteOf (c.takeNumber.getD 0)]

/-- A booth frame, 22 bytes (R196). -/
def boothFrameBytes (f : BoothFrame) : List Byte :=
  0x3A :: (boothFrameFields f ++ [checkByteOf (boothFrameFields f)])

/-! ## Recorder orders and messages (R197) -/

/-- The track, field A and field B of an order (R197). -/
def orderFields (o : OrderBody) : Nat × Nat × Nat :=
  match o with
  | .punchIn track frame => (track, frame, 0)
  | .punchOut track frame => (track, frame, 0)
  | .punchOutNow track => (track, 0xFFFFFFFF, 0)
  | .play track start stop => (track, start, stop)
  | .cancel target => (0, target.toNat, 0)
  | .haltAll => (0, 0, 0)

/-- An order's bytes between the marker and the check (R197). -/
def orderInner (o : Order) : List Byte :=
  let f := orderFields o.body
  byteOf o.body.kind.code :: (beBytes 2 o.tag.toNat ++ [byteOf f.1] ++ beBytes 4 f.2.1 ++ beBytes 4 f.2.2)

/-- An order, 14 bytes (R197). -/
def orderBytes (o : Order) : List Byte := 0x5C :: (orderInner o ++ [checkByteOf (orderInner o)])

/-- A recorder message's bytes between the marker and the check (R197). -/
def messageInner (m : RecMessage) : List Byte :=
  match m with
  | .done tag actual => 0x01 :: (beBytes 2 tag.toNat ++ beBytes 4 actual.toNat)
  | .refused tag reason => 0x02 :: (beBytes 2 tag.toNat ++ beBytes 4 (reasonByteCode reason))
  | .flow value => 0x03 :: (beBytes 2 0 ++ beBytes 4 (flowCode value))

/-- A recorder message, 9 bytes (R197). -/
def messageBytes (m : RecMessage) : List Byte := 0x5D :: (messageInner m ++ [checkByteOf (messageInner m)])

/-! ## Notices (R191) -/

/-- A notice's body: the sub-kind byte, then the fields of its rule (R191; entry 9). -/
def noticeBytes (n : Notice) : List Byte :=
  match n with
  | .chase prev new pos cause =>
    [0, byteOf prev.code, byteOf new.code] ++ positionBytes pos ++ [byteOf (breakCode cause)]
  | .badWord reason => [1, byteOf reason.code]
  | .boothState b prev new cause kept entries =>
    [0, boothByte (some b), byteOf prev.code, byteOf new.code, byteOf cause.code, byteOrFF kept, byteOrFF entries]
  | .cutover b entries wasPending => [1, boothByte (some b), byteOf entries, flagByte wasPending]
  | .cue b cue reason pos => [0, boothByte (some b)] ++ cueIdBytes (some cue) ++ [byteOf reason.code] ++ positionBytes (some pos)
  | .take .state t => 0 :: takeBytes t
  | .take .update t => 1 :: takeBytes t
  | .recFlow f => [0, byteOf (flowCode f)]
  | .recRefused tag kind reason b take =>
    1 :: (beBytes 2 tag.toNat ++ [byteOf kind.code, byteOf (reasonByteCode reason), boothByte b] ++ serialBytes take)
  | .recSilent tag kind b take => 2 :: (beBytes 2 tag.toNat ++ [byteOf kind.code, boothByte b] ++ serialBytes take)
  | .recStray tag kind => 3 :: (beBytes 2 ((tag.map (·.toNat)).getD 0) ++ [byteOf (answerCode kind)])
  | .link fault => [0, byteOf fault.code]
  | .lost classes => [0, classes.byte]
  | .hello cause enabled => [0, byteOf cause.code, enabled.byte]

/-! ## Replies (R191, R192 to R195; entry 10) -/

/-- The stage settings in the layout of STAGE-SET (R195). -/
def stageBytes (x : Stage) : List Byte :=
  [byteOf x.rate.code, byteOf x.lockCount, byteOf x.fwLimit, byteOf x.latency, byteOf x.pre, byteOf x.post]

/-- The five booth settings in the layout of BOOTH-SET (R195). -/
def settingsBytes (x : BoothSettings) : List Byte :=
  [byteOf x.delay, byteOf x.streamer] ++ beepBytes x.beep ++ [byteOf x.guide.code, byteOf x.priority]

/-- A filter: its count and its ids (R167). -/
def filterBytes (ids : List Nat) : List Byte := byteOf ids.length :: ids.map byteOf

/-- An entry of a PASS-GET reply (R67). -/
def entryBytes (e : Entry) : List Byte := cueIdBytes (some e.cue) ++ [flagByte e.live, byteOf e.takesMade]

/-- The head of a PASS-GET reply (R67). -/
def headBytes (h : PassHead) : List Byte :=
  [byteOf h.mode.code, byteOf h.policy.code, byteOf h.limit, byteOf h.kept, byteOf h.count, cursorByte (some h.cursor)] ++
    positionBytes (some h.reachEnd)

/-- The content of a PASS-GET reply (R67). The fields it carries only in some cases, the head of a context that is not empty
and the pending flag of the active one, are left out in the others: the model's choice (entry 37). -/
def passBytes (v : PassView) : List Byte :=
  flagByte v.head.isNone :: ((v.head.map headBytes).getD [] ++ [byteOf v.entries.length] ++
    v.entries.flatMap entryBytes ++ [flagByte v.more] ++ (v.cutPending.map fun p => [flagByte p]).getD [])

/-- A span of a TRACK-GET reply (R125). -/
def spanBytes (x : Span) : List Byte := beBytes 4 x.start ++ beBytes 4 x.stop ++ beBytes 4 x.serial

/-- A booth block of a STATUS reply, 9 bytes (R194). -/
def boothStatusBytes (v : BoothStatus) : List Byte :=
  [byteOf v.state.code, byteOrFF v.activeCount, byteOrFF v.stagedCount, cursorByte v.cursor] ++ cueIdBytes v.front ++
    cueIdBytes v.back ++ [flagByte v.cutPending]

/-- The content of a STATUS reply, 52 bytes (R194). -/
def statusBytes (v : StatusView) : List Byte :=
  byteOf v.chase.code :: (positionBytes v.pos ++ v.booths.toList.flatMap boothStatusBytes ++
    [byteOf (flowCode v.flow), byteOf v.stopCount, byteOf v.startCount, byteOf v.awaitingCount, byteOf v.outstandingCount] ++
    beBytes 2 v.records ++ beBytes 2 v.spansInUse ++ [v.enabled.byte, v.lost.byte])

/-- A string as its length and its characters (entry 11). -/
def textBytes (t : String) : List Byte := byteOf t.length :: t.toList.map fun c => byteOf c.toNat

/-- The content of an IDENT reply (R185; entry 11): vendor, part, the twelve capacities and the reset cause. -/
def identBytes (cause : ResetCause) : List Byte :=
  textBytes "Ulmajo" ++ textBytes "Jastrel DL-4" ++ [4, 12] ++ beBytes 2 1024 ++ [128, 32] ++ beBytes 2 1024 ++
    beBytes 2 2048 ++ [8, 4, 16, 16, 240] ++ [byteOf cause.code]

/-- A reply's body: the result byte and the content (R191), laid out by entry 10 where chapter 11 gives no layout. The
outcome byte of a PASS-STOP reply is 0 for DONE and 1 for STOPPING, not the booth state codes of R190: the model's choice
(entry 36). -/
def replyBytes (r : Reply) : List Byte :=
  match r with
  | .refused code => [byteOf code.code]
  | .refusedCue code cue => byteOf code.code :: cueIdBytes (some cue)
  | .refusedOverlap later earlier => 0x0F :: (cueIdBytes (some later) ++ cueIdBytes (some earlier))
  | .refusedFull selected => 0x10 :: beBytes 2 selected
  | .refusedTake code serial => byteOf code.code :: beBytes 4 serial
  | .ok => [0]
  | .reel x => 0 :: reelBytes x
  | .reels xs => 0 :: byteOf xs.length :: xs.flatMap reelBytes
  | .stage x => 0 :: stageBytes x
  | .cue c => 0 :: cueBytes c
  | .cueId id => 0 :: cueIdBytes (some id)
  | .cues cs more => 0 :: byteOf cs.length :: flagByte more :: cs.flatMap cueBytes
  | .built b count first last reachEnd =>
    0 :: boothByte (some b) :: byteOf count ::
      (cueIdBytes (some first) ++ cueIdBytes (some last) ++ positionBytes (some reachEnd))
  | .pass v => 0 :: passBytes v
  | .cutover pending => [0, flagByte pending]
  | .entryCount n => [0, byteOf n]
  | .stop stopping => [0, flagByte stopping]
  | .track track total spans more =>
    0 :: byteOf track :: (beBytes 2 total ++ [byteOf spans.length] ++ spans.flatMap spanBytes ++ [flagByte more])
  | .marks ms => 0 :: byteOf ms.length :: ms.flatMap fun m => beBytes 4 m.1 ++ [flagByte m.2]
  | .dropped serial track spanEnd => 0 :: (beBytes 4 serial ++ [byteOf track] ++ positionBytes spanEnd)
  | .seek serial => 0 :: serialBytes serial
  | .log records ended oldest =>
    0 :: byteOf records.length :: flagByte ended :: (serialBytes oldest ++ records.flatMap takeBytes)
  | .boothSettings x => 0 :: settingsBytes x
  | .filter ids => 0 :: filterBytes ids
  | .booth x ids => 0 :: (settingsBytes x ++ filterBytes ids)
  | .line last => 0 :: (last.map boothFrameBytes).getD []
  | .enabled classes => [0, classes.byte]
  | .status v => 0 :: statusBytes v
  | .ident cause => 0 :: identBytes cause

/-! ## Control frames (R175) -/

/-- The body of a control frame of the part; that of a BUSY reply is empty (R177, R191). -/
def bodyBytes (b : FrameBody) : List Byte :=
  match b with
  | .reply r => replyBytes r
  | .busy => []
  | .notice n => noticeBytes n

/-- The bytes that the check of a control frame covers (R175). -/
def frameInner (kind : Byte) (tag : Tag) (body : List Byte) : List Byte :=
  byteOf body.length :: kind :: (beBytes 2 tag.toNat ++ body)

/-- A control frame on the wire (R175). -/
def frameBytes (kind : Byte) (tag : Tag) (body : List Byte) : List Byte :=
  0xC5 :: (frameInner kind tag body ++ [checkByteOf (frameInner kind tag body)])

/-- A control frame of the part on the wire (R175). -/
def OutFrame.bytes (f : OutFrame) : List Byte := frameBytes f.kind f.tag (bodyBytes f.body)

end Sys2Proof.Machine
end

