-- ==== Sys2Proof/WellFormed.lean ====
section
/-! DEFINITION. WellFormed.lean: the checks on a command as syntax: that its operands can reach the part on the line
the row names, and that a frame stands under the row it belongs to. -/

namespace Sys2Proof

/-- A control frame holds at most 240 body bytes (R175). -/
def bodyFits (body : List Byte) : Bool := decide (body.length ≤ 240)

/-- A request row: its body fits a frame and the frame belongs to that row (R175, R191). -/
def requestFits (i : Instr) : Bool :=
  match i.request with
  | some (kind, tag, body) => bodyFits body && decide (rowOfFrame kind tag body = i)
  | none => true

/-- A command is well formed: its control frame can be framed and stands under its own row, the bytes of an
unreadable message are unreadable (R197), and a frame fault comes with at least the marker and one more byte (R176). -/
def Instr.wellFormed (i : Instr) : Bool :=
  match i with
  | .busy _ _ body => bodyFits body
  | .restartingDiscard _ _ body => bodyFits body
  | .unreadableMessage bytes => decide (readMessage bytes = none)
  | .frameFault bytes => decide (bytes ≠ [])
  | i => requestFits i

end Sys2Proof
end

