-- ==== Sys2Proof/Safety.lean ====
section
/-! DEFINITION. Safety.lean: the terms that statements about the part use: when a request finds room for its reply, what
a plain reply leaves, which word is valid, and the invariants of the blocks. -/

namespace Sys2Proof.Machine

/-! ## Between two commands -/

/-- Nothing is on its way to the outbound queue, and every outstanding start still may call for a stop (R160; entry
3). Every command ends so. -/
abbrev Settled (s : State) : Prop :=
  s.posted = [] ∧ ∀ o ∈ s.link.outstanding, stillOutstanding s o = true

/-- A request is taken and its reply placed at once: the intake is IDLE and the queue has a place (R177, R180). -/
abbrev CanReply (s : State) : Prop := s.ctl.intake = .idle ∧ s.ctl.queue.length < queuePlaces ∧ Settled s

/-- The state with a reply placed at the end of the queue, the frame of its request having been found (R176, R180). -/
def replied (kind : Byte) (tag : Tag) (r : Reply) (s : State) : State :=
  { s with ctl := { s.ctl with receiver := .hunt, faultRun := false,
                               queue := s.ctl.queue ++ [replyFrame kind tag r] } }

/-- The state with one notice of a class judged by the queue (R181). -/
def noticed (k : NoticeClass) (n : Notice) (s : State) : State :=
  { s with ctl := s.ctl.placeNotice k (noticeFrame n) }

/-- A reply is placed and the intake is IDLE again, the request's frame having been found (R176, R177, R180). -/
abbrev Answered (kind : Byte) (tag : Tag) (r : Reply) (s t : State) : Prop :=
  replyFrame kind tag r ∈ t.ctl.queue ∧ t.ctl.intake = .idle ∧ t.ctl.receiver = .hunt ∧ t.ctl.faultRun = false ∧
  t.ctl.enabled = s.ctl.enabled ∧ t.ctl.resetCause = s.ctl.resetCause

/-- Notices of enabled classes are placed when the queue has room for each of them beyond the kept place and a reply
(R181, R183). -/
abbrev Heard (ns : List Notice) (s t : State) : Prop :=
  s.ctl.queue.length + ns.length + 2 ≤ queuePlaces →
    ∀ n ∈ ns, (∃ k, n.cls = some k ∧ s.ctl.enabled.has k = true) → noticeFrame n ∈ t.ctl.queue

/-- The same when up to `k` other notices may be posted beside them (R181, R183). -/
abbrev HeardBeside (k : Nat) (ns : List Notice) (s t : State) : Prop :=
  s.ctl.queue.length + k + ns.length + 2 ≤ queuePlaces →
    ∀ n ∈ ns, (∃ c, n.cls = some c ∧ s.ctl.enabled.has c = true) → noticeFrame n ∈ t.ctl.queue

/-- What the events of passes, takes and recorder answers leave as it was: the chase unit, the settings, the reels, the
lines, the cues but for their marks, the log's counter and cursor, the recorder's flow and the transmitter. -/
abbrev Elsewhere (s t : State) : Prop :=
  t.chase = s.chase ∧ t.stage = s.stage ∧ t.reels = s.reels ∧ t.lines = s.lines ∧ t.pending = s.pending ∧
  t.cues.map (fun c => (c.fields, c.reel, c.nextTake)) = s.cues.map (fun c => (c.fields, c.reel, c.nextTake)) ∧
  t.log.counter = s.log.counter ∧ t.log.bound = s.log.bound ∧ t.link.flow = s.link.flow ∧
  t.link.transmitter = s.link.transmitter ∧
  ∀ b, (t.booth b).settings = (s.booth b).settings ∧ (t.booth b).filter = (s.booth b).filter

/-! ## Tables in order -/

/-- A table in ascending key, as a list of records (R10, R40). -/
abbrev Ascending {α : Type} (key : α → Nat) (xs : List α) : Prop := xs.Pairwise fun a b => key a < key b

/-- A table after a record is stored under its key, in place of one with that key (R12, R45). -/
abbrev Stored {α : Type} (key : α → Nat) (x : α) (old new : List α) : Prop :=
  Ascending key new ∧ ∀ y, y ∈ new ↔ y = x ∨ (y ∈ old ∧ key y ≠ key x)

/-! ## Passes (R65, R66, R75) -/

/-- Two consecutive cues of a pass keep their planned spans apart (R65 check 3). -/
abbrev Spaced (stage : Stage) (a b : Cue) : Prop := a.fields.outPos + stage.post + stage.pre ≤ b.fields.inPos

/-- Every two consecutive cues of a list keep their planned spans apart (R65 check 3). -/
abbrev AllSpaced (stage : Stage) (cs : List Cue) : Prop :=
  ∀ earlier a b later, cs = earlier ++ a :: b :: later → Spaced stage a b

/-- The cues stand in the order of a pass: ascending in, and among equal in ascending cue id (R59, R65). -/
abbrev InPassOrder (cs : List Cue) : Prop :=
  cs.Pairwise fun a b =>
    a.fields.inPos < b.fields.inPos ∨ (a.fields.inPos = b.fields.inPos ∧ a.fields.id < b.fields.id)

/-- A cue after a build replaces a staged pass of the ids `old` by one of the ids `new` (R53). -/
def restaged (b : BoothId) (old new : List Nat) (c : Cue) : Cue :=
  let cleared := if c.fields.id ∈ old then c.clearStaged b else c
  if c.fields.id ∈ new then cleared.setStaged b else cleared

/-- What a PASS-BUILD gives once its selection stands: the refusals of R65 in their order, or the staged pass of R66,
for the selected cues and, with the extend option, those of the present staged pass. -/
def BuildGives (r : BuildRequest) (tag : Tag) (s : State) (selected : Cue → Prop)
    (o : Host.Outcome State Fault Refusal) : Prop :=
  ∃ cs : List Cue, InPassOrder cs ∧
    (∀ c, c ∈ cs ↔ c ∈ s.cues ∧
      (selected c ∨ (r.extend = true ∧ c.fields.id ∈ passCues (s.booth r.booth).staged))) ∧
    (cs = [] → o = .next (replied 0x0B tag (.refused .passEmpty) s)) ∧
    (128 < cs.length → o = .next (replied 0x0B tag (.refusedFull cs.length) s)) ∧
    (∀ earlier a b later, cs.length ≤ 128 → cs = earlier ++ a :: b :: later →
      AllSpaced s.stage (earlier ++ [a]) → ¬ Spaced s.stage a b →
      o = .next (replied 0x0B tag (.refusedOverlap b.fields.id a.fields.id) s)) ∧
    ∀ first last, cs.length ≤ 128 → AllSpaced s.stage cs → cs.head? = some first → cs.getLast? = some last →
      o = .next (replied 0x0B tag
        (.built r.booth cs.length first.fields.id last.fields.id
          (cueEnd r.booth r.mode last s % (s.stage.rate.perDay : Int)).toNat)
        { s with
          cues := s.cues.map
            (restaged r.booth (passCues (s.booth r.booth).staged) (cs.map (·.fields.id)))
          booths := s.booths.set r.booth
            { s.booth r.booth with
              staged := some
                { mode := r.mode, policy := r.policy, limit := r.limit, kept := 0
                  entries := cs.map fun c => { cue := c.fields.id, live := false, takesMade := 0 }
                  cursor := some 1, reachEnd := cueEnd r.booth r.mode last s } } })

/-- A booth has left ROLLING or STOPPING, or entered DONE or HELD, for a state: it stands there with its active pass, or,
after a pending cut-over, with the staged pass made active, in READY where the state was DONE (R75). -/
abbrev LeftFor (b : BoothId) (new : BoothState) (s t : State) : Prop :=
  ((s.booth b).cutPending = false →
    (t.booth b).state = new ∧ passCues (t.booth b).active = passCues (s.booth b).active ∧
    (t.booth b).staged = (s.booth b).staged) ∧
  ∀ ctx, (s.booth b).cutPending = true → (s.booth b).staged = some ctx →
    (t.booth b).state = (if new = .done then .ready else new) ∧
    (t.booth b).active = some
      { ctx with kept := 0, cursor := some 1
                 entries := ctx.entries.map fun e => { e with live := false, takesMade := 0 } } ∧
    (t.booth b).staged = none ∧ (t.booth b).cutPending = false

/-- The BOOTH notices of a booth that leaves its state for another: STATE, then with a pending cut-over CUTOVER, and
STATE again where the cut-over takes DONE to READY (R75, R85). -/
def leaveNotices (b : BoothId) (new : BoothState) (cause : BoothCause) (v : Booth) : List Notice :=
  .boothState b v.state new cause (if new = .done then v.active.map (·.kept) else none)
      (if new = .done then v.active.map (·.entries.length) else none) ::
    match v.cutPending, v.staged with
    | true, some ctx =>
      .cutover b ctx.entries.length true ::
        if new = .done then [.boothState b .done .ready .cutover none none] else []
    | _, _ => []

/-! ## Live entries (R88, R92, R103, R108) -/

/-- The value of one of an entry's gates (R92). -/
def Gates.on (gs : Gates) (g : Gate) : Bool :=
  match g with
  | .streamer => gs.streamer
  | .beep => gs.beep
  | .guide => gs.guide
  | .lamp => gs.lamp

/-- The booths after the live entry of a cue in one booth's window has changed and nothing else. -/
def entryChanged (b : BoothId) (cue : Nat) (f : LiveEntry → LiveEntry) (s : State) : Quad Booth :=
  s.booths.set b
    { s.booth b with window := (s.booth b).window.map fun x => if x.cueId = cue then f x else x }

/-- An entry whose events of a kind stand in a state (R91). -/
def marked (k : EventKind) (st : EventState) (x : LiveEntry) : LiveEntry :=
  { x with events := x.events.map fun y => if y.kind = k then { y with state := st } else y }

/-- An entry after an event at which its take has failed: the event is TAKEN, the lamp off, and the pending events that
serve the take are VOID (R103). -/
def bereft (k : EventKind) (x : LiveEntry) : LiveEntry :=
  { x with
    gates := { x.gates with lamp := false }
    events := x.events.map fun y =>
      if y.kind = k then { y with state := .taken }
      else if y.state = .pending ∧ y.kind ∈ [EventKind.punchIn, .opening, .punchOut, .closing] then
        { y with state := .void }
      else y }

/-- A take has become FAILED with a reason: its span is released and a TAKE notice STATE posted, and `more` after it
(R121, R130, R139). -/
abbrev TakeFails (t : Take) (r : FailReason) (more : List Post) (s u : State) : Prop :=
  ∃ lost, lost = { t with state := .failed, reason := some r, spanEnd := none, closing := none } ∧
    u.log = { s.log with records := s.log.records.map fun x => if x.serial = t.serial then lost else x } ∧
    u.spans = s.spans.filter (fun x => decide (x.serial ≠ t.serial)) ∧
    u.posted = s.posted ++ [⟨.takeLog, noticeFrame (.take .state lost)⟩] ++ more

/-- A WITHDRAWING take has become TRUNCATED against its closing position, its CANCEL unanswered or refused: the span is
shrunk to min(planned end, c + 1) when that lies above the planned start, and else kept with the take flagged
UNCONFIRMED_OUT (R110, R122). -/
abbrev TruncatedLate (x : Take) (c : Nat) (s t : State) : Prop :=
  (x.plannedStart < min x.plannedEnd (c + 1) →
    t.log.records = s.log.records.map (fun y => if y.serial = x.serial then
      { x with state := .truncated, spanEnd := x.spanEnd.map (fun m => min m (min x.plannedEnd (c + 1)))
               closing := none } else y) ∧
    t.spans = s.spans.map (fun y => if y.serial = x.serial then
      { y with stop := min y.stop (min x.plannedEnd (c + 1)) } else y)) ∧
  (min x.plannedEnd (c + 1) ≤ x.plannedStart →
    t.log.records = s.log.records.map (fun y => if y.serial = x.serial then
      { x with state := .truncated, closing := none, flags := { x.flags with unconfirmedOut := true } } else y) ∧
    t.spans = s.spans)

/-- An order of the entry that leaves its window is reported as having its named frame reached (R154). -/
def reachedFor (b : BoothId) (e : LiveEntry) (o : Order) : Order :=
  if e.owns b o then { o with reached := true } else o

/-- An entry has left its window and stands WAITING in the pass: its place is freed, and the link learns that the named
frames of its orders are reached, which starts the expiry timer of an order already sent (R106, R108, R154). -/
abbrev LeavesWindow (b : BoothId) (e : LiveEntry) (s u : State) : Prop :=
  u = { s with
    booths := s.booths.set b
      { s.booth b with
        window := (s.booth b).window.filter fun x => decide (x.cueId ≠ e.cueId)
        active := (s.booth b).active.map fun ctx =>
          { ctx with entries := ctx.entries.map fun x => if x.cue = e.cueId then { x with live := false } else x } }
    link := { s.link with
      stopLane := s.link.stopLane.map (reachedFor b e)
      startLane := s.link.startLane.map (reachedFor b e)
      awaiting := s.link.awaiting.map fun a =>
        { a with
          order := reachedFor b e a.order
          timer := if a.stage = .running ∧ a.sendEnded = true ∧ (reachedFor b e a.order).reached = true ∧
              a.timer = .stopped then .running (2 * 8) s.stage.rate else a.timer } } }

/-- A start order has been handed back to its booth at an advance: its entry has left the window and is WAITING, a live
take it holds is FAILED with QUEUE_FULL, and the CUE notice QUEUE_FULL is posted (R100, R105, R148). -/
abbrev HandedBack (b : BoothId) (e : LiveEntry) (p : Nat) (s u : State) : Prop :=
  ∃ left, LeavesWindow b e s left ∧ u = { left with log := u.log, spans := u.spans, posted := u.posted } ∧
    (e.take = none → u.log = s.log ∧ u.spans = s.spans ∧
      u.posted = s.posted ++ [⟨.booth b, noticeFrame (.cue b e.cueId .queueFull p)⟩]) ∧
    ∀ held t, e.take = some held → t ∈ s.log.records → t.serial = held.serial → t.state.isLive = true →
      TakeFails t .queueFull [⟨.booth b, noticeFrame (.cue b e.cueId .queueFull p)⟩] s u

/-- A start of an entry has entered the start lane at its end with its tag, which the entry holds (R100, R105, R148). -/
abbrev EntersLane (b : BoothId) (e : LiveEntry) (body : OrderBody) (p : Nat) (s u : State) : Prop :=
  u = { s with
    booths := entryChanged b e.cueId (fun x => { x with startTag := some (nextTag s.link) }) s
    link := { s.link with
      startLane := s.link.startLane ++
        [⟨body, nextTag s.link, some b, e.take.map (·.serial), if body.kind = .play then some e.cueId else none, some p,
          false⟩]
      tagCounter := nextTag s.link + 1 } }

/-- A line after a frame has fallen due on it: an idle line begins the frame, a busy one keeps it as the waiting frame
(R169, R170). -/
abbrev offered (content : FrameContent) (l : Line) : Line :=
  if l.sending then { l with waiting := some content }
  else { l with last := some ⟨l.seq, content⟩, waiting := none, seq := l.seq + 1, sending := true }

/-- A frame has fallen due on a line and nothing else has reached it (R169, R170). -/
abbrev LineOffered (b : BoothId) (content : FrameContent) (s t : State) : Prop :=
  t.lines.get b = offered content (s.lines.get b)

/-- Every notice on its way is placed when its class is enabled and the queue has room for all of them beyond the kept
place (R181, R183). -/
abbrev PostsHeard (w t : State) : Prop :=
  w.ctl.queue.length + w.posted.length + 2 ≤ queuePlaces →
    ∀ x ∈ w.posted, ∀ n k, x.frame = noticeFrame n → n.cls = some k → w.ctl.enabled.has k = true →
      noticeFrame n ∈ t.ctl.queue

/-- The takes, spans and orders of a state are those of another, but for the outstanding starts released since (R160). -/
abbrev TakesAndOrdersOf (u t : State) : Prop :=
  t.log = u.log ∧ t.spans = u.spans ∧ t.link = { u.link with outstanding := t.link.outstanding }

/-! ## Claims and the played take (R89, R97, R116, R117) -/

/-- A take record has been created PLANNED for a claim on a track: its span, the counter, the cue's next take and the
entry's takes made (R54, R60, R97, R116, R127, R128, R131). -/
abbrev Creates (c : Claim) (track n : Nat) (s t : State) : Prop :=
  t.log.counter = s.log.counter + 1 ∧ t.log.bound = s.log.bound ∧
  (∀ x, x ∈ t.spans ↔ x = ⟨track, c.start, c.stop, s.log.counter⟩ ∨ x ∈ s.spans) ∧
  t.spans.length = s.spans.length + 1 ∧
  (∃ kept, t.log.records = kept ++
      [{ serial := s.log.counter, cue := c.cue, number := n, booth := c.booth, track := track
         plannedStart := c.start, plannedEnd := c.stop, spanEnd := some c.stop, recIn := none, recOut := none
         state := .planned, reason := none, flags := ⟨false, false, false⟩, circled := false, closing := none }] ∧
    (s.log.records.length < 2048 → kept = s.log.records) ∧
    (s.log.records.length = 2048 → kept = s.log.records.eraseP fun x => x.state.isTerminal)) ∧
  t.cues = s.cues.map (fun q => if q.fields.id = c.cue then { q with nextTake := q.nextTake + 1 } else q) ∧
  t.booths = s.booths.set c.booth
    { s.booth c.booth with
      active := (s.booth c.booth).active.map fun ctx =>
        { ctx with
          entries := ctx.entries.map fun e => if e.cue = c.cue then { e with takesMade := e.takesMade + 1 } else e } } ∧
  t.link = s.link ∧ t.ctl = s.ctl ∧ t.posted = s.posted

/-- A take is a reclaim candidate of a claim (R117). -/
abbrev Reclaimable (c : Claim) (s : State) (t : Take) : Prop :=
  t.cue = c.cue ∧ t.state ∈ [TakeState.kept, .truncated, .aborted] ∧ t.circled = false ∧
  ∃ x ∈ s.spans, x.serial = t.serial ∧ x.track ∈ c.tracks ∧ x.start < c.stop ∧ c.start < x.stop

/-- A take has the greatest serial among the held ones with a property. -/
abbrev Newest (s : State) (p : Take → Prop) (t : Take) : Prop :=
  t ∈ s.log.records ∧ p t ∧ ∀ x ∈ s.log.records, p x → x.serial ≤ t.serial

/-- The take of a cue that REVIEW plays: the newest circled one that holds a span, else the newest KEPT one; none when the
cue has neither (R89). -/
abbrev PlaysFor (cue : Nat) (s : State) (played : Option Played) : Prop :=
  (∃ t, played = some ⟨t.serial, t.number, t.track, t.plannedStart, t.spanEnd.getD t.plannedEnd⟩ ∧
    (Newest s (fun x => x.cue = cue ∧ x.circled = true ∧ x.state.holdsSpan = true) t ∨
      ((∀ x ∈ s.log.records, ¬ (x.cue = cue ∧ x.circled = true ∧ x.state.holdsSpan = true)) ∧
        Newest s (fun x => x.cue = cue ∧ x.state = .kept) t))) ∨
  (played = none ∧ ∀ x ∈ s.log.records, x.cue = cue →
    ¬ (x.circled = true ∧ x.state.holdsSpan = true) ∧ x.state ≠ .kept)

/-- A snapshot is that of a cue under a mode, with the settings of a booth and the stage settings as they stand
(R41, R89). -/
abbrev SnapshotIs (b : BoothId) (mode : Mode) (q : Cue) (s : State) (snap : Snapshot) : Prop :=
  snap =
    { inPos := q.fields.inPos, outPos := q.fields.outPos, character := q.fields.character, tracks := q.fields.tracks
      scriptRef := q.fields.scriptRef
      streamer := q.fields.streamer.getD (s.booth b).settings.streamer
      beep := q.fields.beep.getD (s.booth b).settings.beep
      guide := if mode = .rehearse then .full else q.fields.guide.getD (s.booth b).settings.guide
      delay := (s.booth b).settings.delay, pre := s.stage.pre, post := s.stage.post, latency := s.stage.latency }

/-! ## Position words (R18) -/

/-- The reason for which a word is invalid, the first check that fails; `none` for a valid word (R18). -/
def wordFault (rate : StageRate) (bytes : List Byte) : Option WordFault :=
  match readPositionWord bytes with
  | none => some .form
  | some w =>
    if w.rateCode ≠ rate.code then some .rate
    else if labelValid rate w.hours w.minutes w.seconds w.frames = false then some .label
    else none

/-- The bytes are a valid word of a motion at a position of the stage rate (R17, R18). -/
def ValidWord (rate : StageRate) (bytes : List Byte) (m : Motion) (p : Nat) : Prop :=
  ∃ w, readPositionWord bytes = some w ∧ w.rateCode = rate.code ∧
    labelValid rate w.hours w.minutes w.seconds w.frames = true ∧ w.motion = m ∧
    countOfLabel rate w.hours w.minutes w.seconds w.frames = p

/-! ## The generic checks (R178) -/

/-- The refusal that a reading ends in. -/
def readError {α : Type} (r : Read α) : Option ResultCode :=
  match r with
  | .ok _ => none
  | .error code => some code

/-- The generic refusal of a frame of a kind, when it meets one (R178). -/
def genericRefusal (rate : StageRate) (kind : Byte) (body : List Byte) : Option ResultCode :=
  match kind.toNat with
  | 0x01 => readError (readReelDefine rate body)
  | 0x02 => readError (readReelId body)
  | 0x04 => readError (readStageSet body)
  | 0x06 => readError (readCuePut rate body)
  | 0x07 => readError (readCueAmend rate body)
  | 0x08 | 0x09 | 0x0A => readError (readCueId body)
  | 0x0B => readError (readPassBuild rate body)
  | 0x0C => readError (readPassGet body)
  | 0x0D | 0x0E | 0x0F | 0x10 | 0x11 | 0x12 | 0x13 | 0x1B | 0x1C => readError (readBooth body)
  | 0x14 => readError (readTrackGet body)
  | 0x15 => readError (readTakeMark body)
  | 0x16 => readError (readSerial body)
  | 0x17 => readError (readLogSeek body)
  | 0x18 => readError (readLogCount body)
  | 0x19 => readError (readBoothSet body)
  | 0x1A => readError (readBoothFilter body)
  | 0x1D => readError (readNoticeSet body)
  | 0x03 | 0x05 | 0x1E | 0x1F | 0x20 => readError (readNone body)
  | _ => some .unknownKind

/-- A beep pattern of three bytes from an offset lies outside the values of R39. -/
abbrev BadBeep (body : List Byte) (off : Nat) : Prop :=
  4 < field body off 1 ∨ field body (off + 1) 1 < 6 ∨ 60 < field body (off + 1) 1 ∨ field body (off + 2) 1 = 0 ∨
  field body (off + 1) 1 ≤ field body (off + 2) 1

/-- A track set of six bytes from an offset is empty, names a track above 32 or one track twice, or goes on behind a 0
(R42, R192). -/
abbrev BadTracks (body : List Byte) (off : Nat) : Prop :=
  field body off 1 = 0 ∨ (∃ i < 6, 32 < field body (off + i) 1) ∨
  ∃ i < 6, ∃ j < i, field body (off + i) 1 ≠ 0 ∧
    (field body (off + j) 1 = 0 ∨ field body (off + j) 1 = field body (off + i) 1)

/-- A cue record that stands in a body from an offset has a value outside R42 and R192 in a field that is selected: bits 0
to 7 of the select set are in, out, character, track set, streamer, beep, guide and script ref. -/
abbrev BadCue (rate : StageRate) (selected : Nat → Bool) (body : List Byte) (off : Nat) : Prop :=
  field body off 2 = 0 ∨ 64 ≤ field body (off + 17) 1 ∨
  (selected 0 = true ∧ rate.perDay ≤ field body (off + 2) 4) ∨
  (selected 1 = true ∧ rate.perDay ≤ field body (off + 6) 4) ∨
  (selected 2 = true ∧ 63 < field body (off + 10) 1) ∨
  (selected 3 = true ∧ BadTracks body (off + 11)) ∨
  (selected 4 = true ∧ field body (off + 17) 1 % 2 = 1 ∧ 240 < field body (off + 18) 1) ∨
  (selected 5 = true ∧ field body (off + 17) 1 / 2 % 2 = 1 ∧ BadBeep body (off + 19)) ∨
  (selected 6 = true ∧ field body (off + 17) 1 / 4 % 2 = 1 ∧ field body (off + 17) 1 / 16 % 4 = 3)

/-- A body of the right length holds a value outside the range its rule gives, for each kind of request (R10, R13, R34,
R42, R46, R51, R62, R67, R125, R134, R135, R137, R138, R165, R167, R183; codes R190, R192, R195). -/
def BadValue (rate : StageRate) (kind : Nat) (body : List Byte) : Prop :=
  let noBooth := field body 0 1 = 0 ∨ 4 < field body 0 1
  match kind with
  | 0x01 => body.length = 18 ∧
      (field body 0 1 = 0 ∨ 12 < field body 0 1 ∨ rate.perDay ≤ field body 1 4 ∨ field body 5 4 = 0 ∨
        rate.perHour < field body 5 4 ∨ rate.lastReelEnd < field body 1 4 + field body 5 4 ∨ 8 < field body 9 1 ∨
        ∃ i < field body 9 1, field body (10 + i) 1 < 0x20 ∨ 0x7E < field body (10 + i) 1)
  | 0x02 => body.length = 1 ∧ (field body 0 1 = 0 ∨ 12 < field body 0 1)
  | 0x04 => body.length = 6 ∧
      (3 < field body 0 1 ∨ field body 1 1 < 2 ∨ 8 < field body 1 1 ∨ field body 2 1 = 0 ∨ 30 < field body 2 1 ∨
        15 < field body 3 1 ∨ 48 < field body 4 1 ∨ 48 < field body 5 1)
  | 0x06 => body.length = 26 ∧ BadCue rate (fun _ => true) body 0
  | 0x07 => body.length = 28 ∧
      (field body 0 2 = 0 ∨ 256 ≤ field body 0 2 ∨
        BadCue rate (fun k => decide (field body 0 2 / 2 ^ k % 2 = 1)) body 2)
  | 0x08 | 0x09 | 0x0A => body.length = 2 ∧ field body 0 2 = 0
  | 0x0B =>
      (body.length = 13 ∧ field body 4 1 / 4 % 2 = 0 ∧
        (noBooth ∨ 2 < field body 1 1 ∨ 1 < field body 2 1 ∨ 99 < field body 3 1 ∨ 8 ≤ field body 4 1 ∨
          rate.perDay ≤ field body 5 4 ∨ rate.perDay ≤ field body 9 4 ∨ field body 9 4 < field body 5 4)) ∨
      (6 ≤ body.length ∧ body.length = 6 + 2 * field body 5 1 ∧ field body 4 1 / 4 % 2 = 1 ∧
        (noBooth ∨ 2 < field body 1 1 ∨ 1 < field body 2 1 ∨ 99 < field body 3 1 ∨ 8 ≤ field body 4 1 ∨
          field body 4 1 / 2 % 2 = 1 ∨ field body 5 1 = 0 ∨ 112 < field body 5 1 ∨
          ∃ i < field body 5 1, field body (6 + 2 * i) 2 = 0))
  | 0x0C => body.length = 3 ∧ (noBooth ∨ 1 < field body 1 1 ∨ field body 2 1 = 0 ∨ 128 < field body 2 1)
  | 0x0D | 0x0E | 0x0F | 0x10 | 0x11 | 0x12 | 0x13 | 0x1B | 0x1C => body.length = 1 ∧ noBooth
  | 0x14 => body.length = 3 ∧
      (field body 0 1 = 0 ∨ 32 < field body 0 1 ∨ field body 1 2 = 0 ∨ 1024 < field body 1 2)
  | 0x15 => 2 ≤ body.length ∧ body.length = 2 + 4 * field body 1 1 ∧
      (2 < field body 0 1 ∨ field body 1 1 = 0 ∨ 8 < field body 1 1 ∨
        (∃ i < field body 1 1, field body (2 + 4 * i) 4 = 0) ∨
        ∃ i < field body 1 1, ∃ j < i, field body (2 + 4 * j) 4 = field body (2 + 4 * i) 4)
  | 0x16 => body.length = 4 ∧ field body 0 4 = 0
  | 0x17 => body.length = 5 ∧
      (2 < field body 0 1 ∨ (field body 0 1 = 2 ∧ field body 1 4 = 0) ∨ (field body 0 1 ≠ 2 ∧ field body 1 4 ≠ 0))
  | 0x18 => body.length = 1 ∧ (field body 0 1 = 0 ∨ 8 < field body 0 1)
  | 0x19 => body.length = 8 ∧
      (noBooth ∨ 7 < field body 1 1 ∨ 240 < field body 2 1 ∨ BadBeep body 3 ∨ 2 < field body 6 1 ∨ 3 < field body 7 1)
  | 0x1A => 3 ≤ body.length ∧ body.length = 3 + field body 2 1 ∧
      (noBooth ∨ 2 < field body 1 1 ∨ field body 2 1 = 0 ∨ 64 < field body 2 1 ∨
        (∃ i < field body 2 1, 63 < field body (3 + i) 1) ∨
        ∃ i < field body 2 1, ∃ j < i, field body (3 + j) 1 = field body (3 + i) 1)
  | 0x1D => body.length = 1 ∧ 64 ≤ field body 0 1
  | _ => False

/-! ## Invariants -/

/-- The chase unit's items agree with its state: the positions and counts of R19 and the timers of R20. -/
abbrev ChaseSound (s : State) : Prop :=
  (s.chase.state = .noSignal → s.chase.absence = .stopped ∧ s.chase.runCount = 0) ∧
  (s.chase.state = .freewheel → s.chase.absence = .stopped ∧ s.chase.fwTimer ≠ .stopped ∧
    s.chase.fwCount ≠ none ∧ s.chase.fwCount = s.chase.lastAdvanced ∧ 1 ≤ s.chase.fwAdvances) ∧
  (s.chase.state ≠ .freewheel → s.chase.fwTimer = .stopped ∧ s.chase.fwCount = none ∧ s.chase.fwAdvances = 0) ∧
  (s.chase.state = .locked → s.chase.lastPos ≠ none ∧ s.chase.lastPos = s.chase.lastAdvanced) ∧
  (s.chase.state ≠ .noSignal → s.chase.state ≠ .freewheel → s.chase.absence ≠ .stopped)

/-- A line's NO_SIGNAL timer runs exactly while the chase unit is in NO_SIGNAL (R170). -/
abbrev LineTimersSound (s : State) : Prop :=
  ∀ b, (s.lines.get b).timer = .stopped ↔ s.chase.state ≠ .noSignal

/-- The reel map keeps R10: at most 12 records in strictly ascending reel id, each within the day-end margin, no two
overlapping. -/
abbrev ReelMapSound (s : State) : Prop :=
  s.reels.length ≤ reelPlaces ∧ s.reels.Pairwise (fun a b => a.id < b.id) ∧
  (∀ r ∈ s.reels, 1 ≤ r.id ∧ r.id ≤ 12 ∧ 1 ≤ r.length ∧ r.length ≤ s.stage.rate.perHour ∧
    r.stop ≤ s.stage.rate.lastReelEnd) ∧
  s.reels.Pairwise (fun a b => overlaps a.start a.stop b.start b.stop = false)

/-- The cue table keeps R40: at most 1,024 records in strictly ascending cue id. -/
abbrev CueTableSound (s : State) : Prop :=
  s.cues.length ≤ cuePlaces ∧ s.cues.Pairwise (fun a b => a.fields.id < b.fields.id)

/-- The occupancy map keeps R113 and R114: at most 1,024 spans, those of one track pairwise disjoint. -/
abbrev SpansSound (s : State) : Prop :=
  s.spans.length ≤ poolPlaces ∧
  s.spans.Pairwise (fun a b => a.track = b.track → overlaps a.start a.stop b.start b.stop = false)

/-- The log's serials ascend from 1 and lie below the serial counter (R128, R129). -/
abbrev SerialsSound (s : State) : Prop :=
  s.log.records.Pairwise (fun a b => a.serial < b.serial) ∧ 1 ≤ s.log.counter ∧
  ∀ t ∈ s.log.records, 1 ≤ t.serial ∧ t.serial < s.log.counter

/-- The fields of each record agree with its state (R127, R130, R133): a span end in the span-holding states alone, a
reason in FAILED alone, a closing position in WITHDRAWING alone, and a circled take is closed. -/
abbrev TakeFieldsSound (s : State) : Prop :=
  ∀ t ∈ s.log.records,
    (t.spanEnd.isSome = true ↔ t.state.holdsSpan = true) ∧ (t.reason.isSome = true ↔ t.state = .failed) ∧
    (t.closing.isSome = true ↔ t.state = .withdrawing) ∧ (t.circled = true → t.state.isClosed = true)

/-- The lists of the recorder link keep their bounds (R146, R151, R160): 4 starts, 16 awaiting entries, 8 outstanding
starts. -/
abbrev LinkListsSound (s : State) : Prop :=
  s.link.startLane.length ≤ startPlaces ∧ s.link.awaiting.length ≤ awaitingPlaces ∧
  s.link.outstanding.length ≤ outstandingPlaces

/-- The outbound queue holds at most 16 frames, and a reply waits in HANDLING only while it is full (R179, R180). -/
abbrev QueueSound (s : State) : Prop :=
  s.ctl.queue.length ≤ queuePlaces ∧
  ∀ f, s.ctl.intake = .handling f → s.ctl.queue.length = queuePlaces

/-- A cue window keeps R68, R79 and R88: at most two live entries, front first, each an entry of the active pass; none
outside ROLLING and STOPPING; one cue alone in STOPPING. -/
abbrev WindowsSound (s : State) : Prop :=
  ∀ b, (s.booth b).window.length ≤ 2 ∧
    (s.booth b).window.Pairwise (fun x y => x.snap.inPos ≤ y.snap.inPos) ∧
    (∀ e ∈ (s.booth b).window, e.cueId ∈ passCues (s.booth b).active) ∧
    ((s.booth b).state ≠ .rolling → (s.booth b).state ≠ .stopping → (s.booth b).window = []) ∧
    ((s.booth b).state = .stopping → ∀ x ∈ (s.booth b).window, ∀ y ∈ (s.booth b).window, x.cueId = y.cueId)

/-- Spans and records agree (R113, R115): each span is that of the one record of its serial, and each record with a span
end owns a span. -/
abbrev SpansAgree (s : State) : Prop :=
  (∀ x ∈ s.spans, ∃ t ∈ s.log.records,
    t.serial = x.serial ∧ t.track = x.track ∧ t.plannedStart = x.start ∧ t.spanEnd = some x.stop) ∧
  (∀ t ∈ s.log.records, ∀ stop, t.spanEnd = some stop → ⟨t.track, t.plannedStart, stop, t.serial⟩ ∈ s.spans) ∧
  s.spans.Pairwise (fun x y => x.serial ≠ y.serial)

/-- What a run keeps of takes, lamps and stop orders: the stop lane holds at most 8 orders (R146, R161); a booth has at
most one take OPEN, and each PLANNED or OPEN take is that of a live entry of its booth, so that there are at most two
(R107); a lamp is on only while the entry's take is PLANNED or OPEN (R92, R103, R173). -/
abbrev RunSound (s : State) : Prop :=
  s.link.stopLane.length ≤ 8 ∧
  ∀ b,
    (∀ t ∈ s.log.records, t.booth = b → t.state = .planned ∨ t.state = .opened →
      ∃ e ∈ (s.booth b).window, e.take = some ⟨t.serial, t.number⟩) ∧
    (∀ t ∈ s.log.records, ∀ u ∈ s.log.records, t.booth = b → u.booth = b → t.state = .opened → u.state = .opened →
      t = u) ∧
    (∀ ts : List Take, ts.Nodup →
      (∀ t ∈ ts, t ∈ s.log.records ∧ t.booth = b ∧ (t.state = .planned ∨ t.state = .opened)) → ts.length ≤ 2) ∧
    ∀ e ∈ (s.booth b).window, e.gates.lamp = true →
      ∃ t ∈ s.log.records, e.take = some ⟨t.serial, t.number⟩ ∧ (t.state = .planned ∨ t.state = .opened)

end Sys2Proof.Machine
end

