-- ==== Sys2Proof/Certificates/Slice0/Obligations.lean ====
section
/-! DEFINITION. Certificates/Slice0/Obligations.lean: the statements for the provers, from the rules of spec/. -/

open Sys2Proof Sys2Proof.Machine

/-! ## The block -/

/-- A step takes the command at the front of the queue and carries it out on the state with the queue's rest; on an empty
queue the block idles (entry 1). -/
def Obligations.StepRunsTheFrontCommand : Prop :=
  ∀ s : State,
    (∀ (c : Instr) (rest : List Instr), s.pending = c :: rest → step s = exec c { s with pending := rest }) ∧
    (s.pending = [] → step s = .next s)

/-- POWER_ON leaves every block at its power-on state, whatever stood before; the queue of commands and the free
values' counter are the model's own (entries 1, 2, 18), and so is a booth's last taken position of none, which no rule
gives (entry 20, the model's choice). State.reset holds the values the rules give for power-on: chase
unit (R38), stage settings (section 2.8), reel map (R16), cue table (R58), booths (R87, R165), occupancy map (R126),
take log (R142), recorder link (R164), lines (R174) and link controller (R186). -/
def Obligations.PowerOnResetsEveryBlock : Prop :=
  (∀ s : State, exec .powerOn s = .next { State.reset with pending := s.pending, free := s.free }) ∧
  (State.reset.chase =
      ⟨.noSignal, none, 0, none, 0, none, false, .stopped, .stopped⟩ ∧
    State.reset.stage = ⟨.r24, 4, 8, 2, 12, 12⟩ ∧ State.reset.reels = [] ∧ State.reset.cues = [] ∧
    (∀ b, State.reset.booth b =
      { state := .empty, settings := ⟨1, 48, ⟨3, 24, 3⟩, .lead, boothNumber b - 1⟩, filter := [], active := none,
        staged := none, cutPending := false, window := [], lastTaken := none }) ∧
    State.reset.spans = [] ∧ State.reset.log = ⟨[], 1, 1⟩ ∧
    State.reset.link = ⟨.hold, [], [], none, [], [], 0x0000⟩ ∧
    (∀ b, ∃ content, State.reset.lines.get b = ⟨some ⟨0, content⟩, none, 1, .running (2 * 24) .r24, true⟩ ∧
      content.picture = .noSignal ∧ content.boothState = .empty ∧ content.display = none ∧ content.reel = none) ∧
    State.reset.ctl =
      ⟨.hunt, false, .idle, [noticeFrame (.hello .powerOn ⟨true, true, true, true, true, true⟩)],
        ⟨false, false, false, false, false, false⟩, ⟨true, true, true, true, true, true⟩, .powerOn⟩ ∧
    State.reset.pending = [])

/-! ## Chase unit -/

/-- An invalid word changes no item of the chase unit but the bad-run flag, and posts one CHASE notice BAD_WORD with its
reason when the flag was clear (R18). -/
def Obligations.InvalidWordPostsOneBadWord : Prop :=
  ∀ (bytes : List Byte) (reason : WordFault) (s : State), Settled s → wordFault s.stage.rate bytes = some reason →
    (s.chase.badRun = true → exec (.positionWord bytes) s = .next s) ∧
    (s.chase.badRun = false →
      exec (.positionWord bytes) s =
        .next (noticed .chase (.badWord reason) { s with chase := { s.chase with badRun := true } }))

/-- In NO_SIGNAL, PARKED and WINDING a valid word gives ACQUIRING with run count 1, PARKED or WINDING, at the word's
position, with the absence timer at 3 frame periods and no announcement; a booth frame at the position falls due on every
line, whose NO_SIGNAL timer stops when the state was NO_SIGNAL; a change of state posts a CHASE notice (R20, R21, R30, R33,
R170). -/
def Obligations.WordOutsideARollSettles : Prop :=
  ∀ (bytes : List Byte) (m : Motion) (p : Nat) (s : State), ValidWord s.stage.rate bytes m p → ChaseSound s →
    s.chase.state = .noSignal ∨ s.chase.state = .parked ∨ s.chase.state = .winding →
    ∃ t, exec (.positionWord bytes) s = .next t ∧
      t.chase =
        { s.chase with
          state := match m with
            | .play => .acquiring
            | .park => .parked
            | .wind => .winding
          lastPos := some p, runCount := if m = .play then 1 else 0, badRun := false,
          absence := .running 6 s.stage.rate, fwTimer := .stopped } ∧
      t.booths = s.booths ∧ t.link.startLane = s.link.startLane ∧ t.link.stopLane = s.link.stopLane ∧
      t.log = s.log ∧ t.spans = s.spans ∧ t.cues = s.cues ∧
      (∀ b, t.lines.get b =
        { offered (frameContent b (some p) { s with chase := t.chase }) (s.lines.get b) with
          timer := if s.chase.state = .noSignal then .stopped else (s.lines.get b).timer }) ∧
      (s.chase.state ≠ t.chase.state → s.posted = [] →
        Heard [.chase s.chase.state t.chase.state (some p) none] s t)

/-- In ACQUIRING a continuing PLAY word counts towards lock and locks at the lock count, with a roll start as a LOCKED
advance; any other valid word starts again, in ACQUIRING, PARKED or WINDING, and a change of state posts a CHASE notice. A
booth frame at the position falls due on every line (R23, R24, R33, R170). -/
def Obligations.AcquiringWordCountsTowardsLock : Prop :=
  ∀ (bytes : List Byte) (m : Motion) (p : Nat) (s : State), ValidWord s.stage.rate bytes m p → ChaseSound s →
    s.chase.state = .acquiring →
    ∃ t, exec (.positionWord bytes) s = .next t ∧
      (m = .play → continuesFrom s.stage.rate s.chase.lastPos p = true → s.chase.runCount + 1 < s.stage.lockCount →
        t.chase = { s.chase with lastPos := some p, runCount := s.chase.runCount + 1, badRun := false,
                                 absence := .running 6 s.stage.rate } ∧ t.booths = s.booths ∧
        ∀ b, LineOffered b (frameContent b (some p) { s with chase := t.chase }) s t) ∧
      (m = .play → continuesFrom s.stage.rate s.chase.lastPos p = true → s.stage.lockCount ≤ s.chase.runCount + 1 →
        t = conclude (runChase
          { chase := { s.chase with state := .locked, lastPos := some p, runCount := s.chase.runCount + 1,
                                    lastAdvanced := some p, badRun := false, absence := .running 3 s.stage.rate }
            said := some (.advance p true), frame := some (some p), cause := none } s)) ∧
      (m = .play → continuesFrom s.stage.rate s.chase.lastPos p = false →
        t.chase = { s.chase with lastPos := some p, runCount := 1, badRun := false,
                                 absence := .running 6 s.stage.rate } ∧ t.booths = s.booths ∧
        ∀ b, LineOffered b (frameContent b (some p) { s with chase := t.chase }) s t) ∧
      (m ≠ .play →
        t.chase = { s.chase with state := if m = .park then .parked else .winding, lastPos := some p, runCount := 0,
                                 badRun := false, absence := .running 6 s.stage.rate } ∧ t.booths = s.booths ∧
        (∀ b, LineOffered b (frameContent b (some p) { s with chase := t.chase }) s t) ∧
        (s.posted = [] → Heard [.chase .acquiring t.chase.state (some p) none] s t))

/-- In LOCKED a continuing PLAY word is a LOCKED advance, and every other valid word breaks the roll with its cause
against the last advanced position (R25, R26). In FREEWHEEL a PLAY word at the freewheel count returns to LOCKED without
an advance, one that continues from it returns with an advance, and any other valid word breaks the roll; each stops the
freewheel timer (R29). An event of the unit posts one CHASE notice when it changes the chase state and none otherwise: it
carries both states, the freewheel count in FREEWHEEL and the last position in the others, and the cause of a roll break
(R33). That it stands first among the posted frames is the model's own order, which no rule gives: the order in which notices
of different blocks reach the queue is a free value (entry 3). -/
def Obligations.WordInARollAdvancesOrBreaks : Prop :=
  (∀ (bytes : List Byte) (m : Motion) (p : Nat) (s : State), ValidWord s.stage.rate bytes m p → ChaseSound s →
      s.chase.state = .locked →
      (m = .play → continuesFrom s.stage.rate s.chase.lastPos p = true →
        exec (.positionWord bytes) s =
          .next (conclude (runChase
            { chase := { s.chase with lastPos := some p, lastAdvanced := some p, badRun := false,
                                      absence := .running 3 s.stage.rate }
              said := some (.advance p true), frame := some (some p), cause := none } s))) ∧
      (¬ (m = .play ∧ continuesFrom s.stage.rate s.chase.lastPos p = true) →
        ∃ last, s.chase.lastAdvanced = some last ∧
        exec (.positionWord bytes) s =
          .next (conclude (runChase
            { chase := { s.chase with
                state := match m with
                  | .play => .acquiring
                  | .park => .parked
                  | .wind => .winding
                lastPos := some p, runCount := if m = .play then 1 else 0, badRun := false,
                absence := .running 6 s.stage.rate }
              said := some (.rollBreak last), frame := some (some p)
              cause := some (match m with
                | .play => .relocate
                | .park => .park
                | .wind => .wind) } s)))) ∧
  (∀ (bytes : List Byte) (m : Motion) (p n : Nat) (s : State), ValidWord s.stage.rate bytes m p → ChaseSound s →
      s.chase.state = .freewheel → s.chase.fwCount = some n →
      (m = .play → p = n →
        exec (.positionWord bytes) s =
          .next (conclude (runChase
            { chase := { s.chase with state := .locked, lastPos := some p, fwCount := none, fwAdvances := 0,
                                      badRun := false, absence := .running 3 s.stage.rate, fwTimer := .stopped }
              said := none, frame := none, cause := none } s))) ∧
      (m = .play → p = nextPos s.stage.rate n → p ≠ n →
        exec (.positionWord bytes) s =
          .next (conclude (runChase
            { chase := { s.chase with state := .locked, lastPos := some p, fwCount := none, fwAdvances := 0,
                                      lastAdvanced := some p, badRun := false, absence := .running 3 s.stage.rate,
                                      fwTimer := .stopped }
              said := some (.advance p true), frame := some (some p), cause := none } s))) ∧
      (¬ (m = .play ∧ (p = n ∨ p = nextPos s.stage.rate n)) →
        exec (.positionWord bytes) s =
          .next (conclude (runChase
            { chase := { s.chase with
                state := match m with
                  | .play => .acquiring
                  | .park => .parked
                  | .wind => .winding
                lastPos := some p, runCount := if m = .play then 1 else 0, fwCount := none, fwAdvances := 0,
                badRun := false, absence := .running 6 s.stage.rate, fwTimer := .stopped }
              said := some (.rollBreak n), frame := some (some p)
              cause := some (match m with
                | .play => .relocate
                | .park => .park
                | .wind => .wind) } s)))) ∧
  ∀ (o : ChaseOut) (s : State), s.posted = [] →
    (o.chase.state = s.chase.state → ∀ x ∈ (runChase o s).posted, x.source ≠ .chase) ∧
    (o.chase.state ≠ s.chase.state →
      ∃ more, (runChase o s).posted =
          ⟨.chase, noticeFrame (.chase s.chase.state o.chase.state
            (if o.chase.state = .freewheel then o.chase.fwCount else o.chase.lastPos) o.cause)⟩ :: more ∧
        ∀ x ∈ more, x.source ≠ .chase) ∧
    PostsHeard (runChase o s) (conclude (runChase o s))

/-- An absence expiry takes ACQUIRING, PARKED and WINDING to NO_SIGNAL, the last position kept, and LOCKED to FREEWHEEL
with a FREEWHEEL advance at the position that follows (R24, R27, R30, R33). A freewheel expiry below the limit makes a
freewheel advance; at the limit it breaks the roll with SIGNAL_LOST and enters NO_SIGNAL (R28). Where no booth acts, a frame falls due on
every line: at an entry to NO_SIGNAL one without position, with the NO_SIGNAL timer started, and at a freewheel advance one at
its position (R170). -/
def Obligations.ExpiriesOfTheChaseTimers : Prop :=
  ∀ s : State, ChaseSound s →
    (s.chase.absence ≠ .stopped → s.chase.state ≠ .locked →
      ∃ t, exec .absenceTimerExpiry s = .next t ∧
        t.chase = { s.chase with state := .noSignal, runCount := 0, absence := .stopped } ∧ t.booths = s.booths ∧
        (s.posted = [] → Heard [.chase s.chase.state .noSignal s.chase.lastPos none] s t) ∧
        ∀ b, t.lines.get b =
          { offered (frameContent b none { s with chase := t.chase }) (s.lines.get b) with
            timer := .running (2 * s.stage.rate.fps) s.stage.rate }) ∧
    (s.chase.absence ≠ .stopped → s.chase.state = .locked →
      ∃ q, s.chase.lastPos = some q ∧
      exec .absenceTimerExpiry s =
        .next (conclude (runChase
          { chase := { s.chase with
              state := .freewheel, fwCount := some (nextPos s.stage.rate q), fwAdvances := 1,
              lastAdvanced := some (nextPos s.stage.rate q), absence := .stopped, fwTimer := .running 2 s.stage.rate }
            said := some (.advance (nextPos s.stage.rate q) false), frame := some (some (nextPos s.stage.rate q))
            cause := none } s))) ∧
    (∀ n, s.chase.state = .freewheel → s.chase.fwCount = some n → s.chase.fwAdvances < s.stage.fwLimit →
      exec .freewheelTimerExpiry s =
        .next (conclude (runChase
          { chase := { s.chase with
              fwCount := some (nextPos s.stage.rate n), fwAdvances := s.chase.fwAdvances + 1,
              lastAdvanced := some (nextPos s.stage.rate n), fwTimer := .running 2 s.stage.rate }
            said := some (.advance (nextPos s.stage.rate n) false), frame := some (some (nextPos s.stage.rate n))
            cause := none } s))) ∧
    (∀ n, s.chase.state = .freewheel → s.chase.fwCount = some n → s.stage.fwLimit ≤ s.chase.fwAdvances →
      exec .freewheelTimerExpiry s =
        .next (conclude (runChase
          { chase := { s.chase with
              state := .noSignal, runCount := 0, fwCount := none, fwAdvances := 0, fwTimer := .stopped }
            said := some (.rollBreak n), frame := some none, cause := some .signalLost } s))) ∧
    ∀ i, (i = .absenceTimerExpiry ∧ s.chase.state = .locked) ∨ (i = .freewheelTimerExpiry ∧ s.chase.state = .freewheel) →
      (∀ b, (s.booth b).state ∈ [BoothState.empty, .ready, .held, .done]) →
      ∃ t, exec i s = .next t ∧ ∀ b, t.lines.get b =
        { offered (frameContent b (if t.chase.state = .noSignal then none else t.chase.lastAdvanced)
            { s with chase := t.chase }) (s.lines.get b) with
          timer := if t.chase.state = .noSignal then .running (2 * s.stage.rate.fps) s.stage.rate
            else (s.lines.get b).timer }

/-- What an event of the chase unit leaves: words and expiries change no stage setting, no reel, no booth setting or
filter, no field of a cue but its next take and mark, not the read cursor, not the recorder's flow, and of the link
controller the queue, the intake's waiting reply and the lost set alone. -/
def Obligations.ChaseEventsLeaveTheRest : Prop :=
  ∀ (i : Instr) (s t : State),
    (∃ bytes, i = .positionWord bytes) ∨ i = .absenceTimerExpiry ∨ i = .freewheelTimerExpiry → exec i s = .next t →
    t.stage = s.stage ∧ t.reels = s.reels ∧ t.pending = s.pending ∧ t.log.bound = s.log.bound ∧
    t.link.flow = s.link.flow ∧
    (∀ b, (t.booth b).settings = (s.booth b).settings ∧ (t.booth b).filter = (s.booth b).filter) ∧
    t.cues.map (fun c => (c.fields, c.reel)) = s.cues.map (fun c => (c.fields, c.reel)) ∧
    t.ctl.receiver = s.ctl.receiver ∧ t.ctl.faultRun = s.ctl.faultRun ∧ t.ctl.enabled = s.ctl.enabled ∧
    t.ctl.resetCause = s.ctl.resetCause

/-- Within a roll each advance is at the position that follows the last advanced one: an announcement made in LOCKED or
FREEWHEEL names the position after it, and the unit then holds that position as last advanced (R31). -/
def Obligations.AdvancesFollowOneAnother : Prop :=
  ∀ (s : State) (o : ChaseOut) (p : Nat) (locked : Bool), ChaseSound s →
    s.chase.state = .locked ∨ s.chase.state = .freewheel →
    (∃ m q, o = wordOut s.stage m q s.chase) ∨ (s.chase.absence ≠ .stopped ∧ o = absenceOut s.stage s.chase) ∨
      (s.chase.fwTimer ≠ .stopped ∧ o = freewheelExpiryOut s.stage s.chase) →
    o.said = some (.advance p locked) →
    ∃ q, s.chase.lastAdvanced = some q ∧ p = nextPos s.stage.rate q ∧ o.chase.lastAdvanced = some p ∧
      (o.chase.state = .locked ↔ locked = true)

/-! ## Booth lines -/

/-- An expiry of a line's NO_SIGNAL timer makes a frame without position fall due on that line alone and restarts the
timer for one second of frame periods; an idle line begins the frame, a busy one keeps it as the waiting frame in place
of any before it (R169, R170). The end of a transmission begins the waiting frame, or leaves the line idle (R169). -/
def Obligations.LineSendsOneFrameAtATime : Prop :=
  ∀ (b : BoothId) (s : State),
    ((s.lines.get b).timer ≠ .stopped → (s.lines.get b).sending = false →
      exec (.noSignalTimerExpiry b) s =
        .next { s with
          lines := s.lines.set b
            { last := some ⟨(s.lines.get b).seq, frameContent b none s⟩, waiting := none
              seq := (s.lines.get b).seq + 1, timer := .running (2 * s.stage.rate.fps) s.stage.rate, sending := true } }) ∧
    ((s.lines.get b).timer ≠ .stopped → (s.lines.get b).sending = true →
      exec (.noSignalTimerExpiry b) s =
        .next { s with
          lines := s.lines.set b
            { s.lines.get b with
              waiting := some (frameContent b none s)
              timer := .running (2 * s.stage.rate.fps) s.stage.rate } }) ∧
    (∀ c, (s.lines.get b).sending = true → (s.lines.get b).waiting = some c →
      exec (.boothFrameSent b) s =
        .next { s with
          lines := s.lines.set b
            { last := some ⟨(s.lines.get b).seq, c⟩, waiting := none
              seq := (s.lines.get b).seq + 1, timer := (s.lines.get b).timer, sending := true } }) ∧
    ((s.lines.get b).sending = true → (s.lines.get b).waiting = none →
      exec (.boothFrameSent b) s =
        .next { s with lines := s.lines.set b { s.lines.get b with sending := false } })

/-- A booth frame at a position shows the chase state, the booth state, the display position (p + d) within the day with
its reel, the front entry's fields, a countdown to its in, and a gate that is on in either live entry; the streamer of
S frames runs from 0 to at most 1022. A display event sets its gate, and becomes TAKEN; LAMP-ON sets the lamp on only while
the entry's take is PLANNED or OPEN (R91, R92, R171, R172). -/
def Obligations.BoothFrameShowsTheFrontEntry : Prop :=
  (∀ (b : BoothId) (p : Nat) (s : State),
    (frameContent b (some p) s).picture = s.chase.state ∧
    (frameContent b (some p) s).boothState = (s.booth b).state ∧
    (frameContent b (some p) s).display = some ((p + (s.booth b).settings.delay) % s.stage.rate.perDay) ∧
    (frameContent b (some p) s).reel = reelAt s.reels ((p + (s.booth b).settings.delay) % s.stage.rate.perDay) ∧
    (frameContent b none s).display = none ∧ (frameContent b none s).reel = none ∧
    ((s.booth b).window = [] →
      frameContent b (some p) s =
        { FrameContent.blank with
          picture := s.chase.state, boothState := (s.booth b).state
          display := some ((p + (s.booth b).settings.delay) % s.stage.rate.perDay)
          reel := reelAt s.reels ((p + (s.booth b).settings.delay) % s.stage.rate.perDay) }) ∧
    (∀ e rest v, (s.booth b).window = e :: rest → v = p + (s.booth b).settings.delay →
      (frameContent b (some p) s).frontCue = some e.cueId ∧
      (frameContent b (some p) s).character = some e.snap.character ∧
      (frameContent b (some p) s).scriptRef = e.snap.scriptRef ∧
      (e.gates.streamer = true → (frameContent b (some p) s).streamer = some (streamerValue e.snap v)) ∧
      (e.gates.streamer = false → (frameContent b (some p) s).streamer = none) ∧
      (v + 255 < e.snap.inPos → (frameContent b (some p) s).countdown = some 255) ∧
      (v < e.snap.inPos → e.snap.inPos ≤ v + 255 →
        (frameContent b (some p) s).countdown = some (e.snap.inPos - v)) ∧
      (e.snap.inPos ≤ v → (frameContent b (some p) s).countdown = none) ∧
      (frameContent b (some p) s).takeNumber =
        (match e.take with
        | some t => some t.number
        | none => e.played.map (·.number)) ∧
      (frameContent b (some p) s).beep = (e.gates.beep || rest.any (·.gates.beep)) ∧
      (frameContent b (some p) s).lamp = (e.gates.lamp || rest.any (·.gates.lamp)) ∧
      (frameContent b (some p) s).guide = (e.gates.guide || rest.any (·.gates.guide)))) ∧
  (∀ (v : Snapshot) (display : Nat), 0 < v.streamer → v.inPos ≤ display + v.streamer → display < v.inPos →
    streamerValue v display = (display + v.streamer - v.inPos) * 1023 / v.streamer ∧ streamerValue v display ≤ 1022) ∧
  ∀ (b : BoothId) (e : LiveEntry) (p n : Nat) (locked recording : Bool) (s : State)
      (shown : EventKind → (Gates → Gates) → State),
    (recording = true ↔ entryTakeState e s = some .planned ∨ entryTakeState e s = some .opened) →
    (∀ k f, shown k f =
      { s with booths := entryChanged b e.cueId (fun x => { marked k .taken x with gates := f x.gates }) s }) →
    eventTaken b e .streamerOn p locked s = shown .streamerOn (fun g => { g with streamer := true }) ∧
    eventTaken b e .streamerOff p locked s = shown .streamerOff (fun g => { g with streamer := false }) ∧
    eventTaken b e (.beepOn n) p locked s = shown (.beepOn n) (fun g => { g with beep := true }) ∧
    eventTaken b e (.beepOff n) p locked s = shown (.beepOff n) (fun g => { g with beep := false }) ∧
    eventTaken b e .guideOn p locked s = shown .guideOn (fun g => { g with guide := true }) ∧
    eventTaken b e .guideOff p locked s = shown .guideOff (fun g => { g with guide := false }) ∧
    eventTaken b e .lampOn p locked s = shown .lampOn (fun g => { g with lamp := recording }) ∧
    eventTaken b e .lampOff p locked s = shown .lampOff (fun g => { g with lamp := false })

/-! ## Link controller -/

/-- Bytes without a marker, then a marker whose candidate frame is faulty and hides no further marker: the receiver
is in HUNT again, and one LINK notice is posted in a run of faults. So it is when the gap timer expires. A well-framed
frame is taken wherever it stands: behind bytes without a marker, and behind the marker of a faulty candidate, by the
resumed search (R176). That FRAME_FAULT carries the arriving bytes with the frames among them is entry 5, and that a
fault's notice is placed before the frame behind it is taken is entry 30: both are the model's. -/
def Obligations.ReceiverHuntsForFrames : Prop :=
  (∀ (junk rest : List Byte) (f : FrameFault) (s : State), Settled s → 0xC5 ∉ junk → 0xC5 ∉ rest →
      (s.ctl.receiver = .hunt → readCandidate rest = .faulty f →
        (s.ctl.faultRun = true → exec (.frameFault (junk ++ 0xC5 :: rest)) s = .next s) ∧
        (s.ctl.faultRun = false →
          exec (.frameFault (junk ++ 0xC5 :: rest)) s =
            .next (noticed .link (.link f) { s with ctl := { s.ctl with faultRun := true } }))) ∧
      (s.ctl.receiver = .frame (0xC5 :: rest) →
        (s.ctl.faultRun = true →
          exec .gapTimerExpiry s = .next { s with ctl := { s.ctl with receiver := .hunt } }) ∧
        (s.ctl.faultRun = false →
          exec .gapTimerExpiry s =
            .next (noticed .link (.link .gap) { s with ctl := { s.ctl with receiver := .hunt, faultRun := true } })))) ∧
  (∀ (junk : List Byte) (kind : Byte) (tag : Tag) (body : List Byte) (s : State), Settled s → s.ctl.receiver = .hunt →
      0xC5 ∉ junk → body.length ≤ 240 →
      exec (.frameFault (junk ++ frameBytes kind tag body)) s = .next (takeRequest kind tag (handlerOf kind body) s) ∧
      ∀ f, readCandidate (junk ++ frameBytes kind tag body) = .faulty f →
        exec (.frameFault (0xC5 :: (junk ++ frameBytes kind tag body))) s =
          .next (takeRequest kind tag (handlerOf kind body) (conclude (frameFaulted f s))))

/-- A candidate frame is faulty by LENGTH when its length byte is above 240 and by CHECK when its bytes from length
through check do not sum to 00h, and is not yet judged while bytes are missing; a frame built by R175 is well framed,
with its kind, tag and body (R175, R176). A recorder message and a position word of any label, rate code and motion are
read as they are laid out (R196, R197). -/
def Obligations.FramesAndWordsReadBack : Prop :=
  ((∀ (length : Byte) (bytes : List Byte), 240 < length.toNat → readCandidate (length :: bytes) = .faulty .length) ∧
    (∀ (length : Byte) (bytes : List Byte), length.toNat ≤ 240 → bytes.length < length.toNat + 4 →
      readCandidate (length :: bytes) = .partly) ∧
    (∀ (length : Byte) (bytes : List Byte), length.toNat ≤ 240 → bytes.length = length.toNat + 4 →
      byteSum (length :: bytes) ≠ 0 → readCandidate (length :: bytes) = .faulty .check) ∧
    ∀ (kind : Byte) (tag : Tag) (body later : List Byte), body.length ≤ 240 →
      ∃ inner, frameBytes kind tag body = 0xC5 :: inner ∧ inner.length = body.length + 5 ∧ byteSum inner = 0 ∧
        readCandidate (inner ++ later) = .framed kind tag body later) ∧
  ((∀ m : RecMessage, (messageBytes m).length = 9 ∧ readMessage (messageBytes m) = some m) ∧
    ∀ (h m s f : Byte) (code : Nat) (motion : Motion) (motionCode : Nat) (fields : List Byte), code < 4 →
      motionOfCode motionCode = some motion → fields = [h, m, s, f, byteOf (code + 16 * motionCode)] →
      readPositionWord (0xA6 :: (fields ++ [checkByteOf fields])) =
        some ⟨h.toNat, m.toNat, s.toNat, f.toNat, code, motion⟩)

/-- Every request row hands its frame to the owner of its kind, and a frame in any other row is taken as its kind
says (R177, R191). A well-framed frame that arrives in HANDLING is answered BUSY with its own kind and tag and does
nothing else; one that arrives in RESTARTING is discarded (R177, R187). That a discarded frame too sets the receiver to HUNT
and clears the fault-run flag (entry 34), that bytes collected in FRAME are dropped when a whole frame is found (entry 35), and
that a row whose body names another row of its kind is taken by its body (entry 6) are the model's. -/
def Obligations.FrameIsTakenByTheIntake : Prop :=
  (∀ (i : Instr) (kind : Byte) (tag : Tag) (body : List Byte) (s : State),
      i.request = some (kind, tag, body) ∨ i = .busy kind tag body ∨ i = .restartingDiscard kind tag body →
      exec i s = .next (takeRequest kind tag (handlerOf kind body) s)) ∧
  (∀ (i : Instr) (kind : Byte) (tag : Tag) (body : List Byte) (s : State), Settled s →
      i.request = some (kind, tag, body) ∨ i = .busy kind tag body ∨ i = .restartingDiscard kind tag body →
      (∀ reply, s.ctl.intake = .handling reply →
        exec i s =
          .next { s with
            ctl := { s.ctl with receiver := .hunt, faultRun := false }.placeBusy ⟨kind ||| 0x80, tag, .busy⟩ }) ∧
      (s.ctl.intake = .restarting →
        exec i s = .next { s with ctl := { s.ctl with receiver := .hunt, faultRun := false } }))

/-- A request that fails a generic check is refused with that code and changes nothing else; a kind that is not that
of a request fails with UNKNOWN_KIND, a body of another length than its kind requires with BAD_LENGTH, and one of that
length with a value outside the range of its rule with BAD_VALUE, and of every kind but REEL-DEFINE with no other
value (the fill bytes of a REEL-DEFINE label are entry 12; that the reserved bits of byte 17 of a cue body are checked
always, and the guide code of an absent or unselected guide never, is entry 13, the model's) (R10, R13, R34, R42, R46,
R51, R62, R67, R125, R134, R135, R137, R138, R165, R167, R178, R183, R191, R192, R195). -/
def Obligations.GenericRefusalChangesNothing : Prop :=
  (∀ (i : Instr) (kind : Byte) (tag : Tag) (body : List Byte) (code : ResultCode) (s : State),
    i.request = some (kind, tag, body) → CanReply s → genericRefusal s.stage.rate kind body = some code →
    exec i s = .next (replied kind tag (.refused code) s)) ∧
  (∀ (rate : StageRate) (kind : Byte) (body : List Byte),
    (kind.toNat = 0 ∨ 0x20 < kind.toNat → genericRefusal rate kind body = some .unknownKind) ∧
    (∀ length, (kind.toNat, length) ∈
        [(0x01, 18), (0x02, 1), (0x03, 0), (0x04, 6), (0x05, 0), (0x06, 26), (0x07, 28), (0x08, 2), (0x09, 2),
         (0x0A, 2), (0x0C, 3), (0x0D, 1), (0x0E, 1), (0x0F, 1), (0x10, 1), (0x11, 1), (0x12, 1), (0x13, 1), (0x14, 3),
         (0x16, 4), (0x17, 5), (0x18, 1), (0x19, 8), (0x1B, 1), (0x1C, 1), (0x1D, 1), (0x1E, 0), (0x1F, 0), (0x20, 0)] →
      body.length ≠ length → genericRefusal rate kind body = some .badLength) ∧
    (kind.toNat = 0x15 → body.length < 2 ∨ body.length ≠ 2 + 4 * (body.getD 1 0).toNat →
      genericRefusal rate kind body = some .badLength) ∧
    (kind.toNat = 0x1A → body.length < 3 ∨ body.length ≠ 3 + (body.getD 2 0).toNat →
      genericRefusal rate kind body = some .badLength) ∧
    (kind.toNat = 0x0B → body.length < 5 ∨ ((body.getD 4 0).toNat / 4 % 2 = 0 ∧ body.length ≠ 13) ∨
        ((body.getD 4 0).toNat / 4 % 2 = 1 ∧ (body.length < 6 ∨ body.length ≠ 6 + 2 * (body.getD 5 0).toNat)) →
      genericRefusal rate kind body = some .badLength) ∧
    (BadValue rate kind.toNat body → genericRefusal rate kind body = some .badValue) ∧
    (kind.toNat ≠ 0x01 → genericRefusal rate kind body = some .badValue → BadValue rate kind.toNat body))

/-- A notice of a disabled class is neither placed nor lost; one of an enabled class is placed while two places are
free and its class is lost otherwise. A BUSY reply short of room takes the place of the last notice not begun, whose
class is lost unless disabled (entry 8); without one it is dropped and LINK joins the lost set (R181, R183). That it
passes over LOST and HELLO is entry 7, and that the first frame of the queue counts as begun is entry 26: both are the
model's. A reading request that finds the queue full changes nothing: the reply it would place with room waits in
HANDLING (R180). -/
def Obligations.QueueKeepsOnePlaceForReplies : Prop :=
  (∀ (c : Control) (k : NoticeClass) (f : OutFrame),
      (c.enabled.has k = false → c.placeNotice k f = c) ∧
      (c.enabled.has k = true → c.queue.length ≤ 14 → c.placeNotice k f = { c with queue := c.queue ++ [f] }) ∧
      (c.enabled.has k = true → 14 < c.queue.length → c.placeNotice k f = { c with lost := c.lost.add k }) ∧
      (c.queue.length ≤ 14 → c.placeBusy f = { c with queue := c.queue ++ [f] }) ∧
      (∀ sending earlier n later, 14 < c.queue.length → c.queue = sending :: (earlier ++ n :: later) →
        n.noticeClass = some k → (∀ x ∈ later, x.noticeClass = none) →
        c.placeBusy f =
          { c with queue := sending :: (earlier ++ later ++ [f])
                   lost := if c.enabled.has k then c.lost.add k else c.lost }) ∧
      (∀ sending later, 14 < c.queue.length → c.queue = sending :: later → (∀ x ∈ later, x.noticeClass = none) →
        c.placeBusy f = { c with lost := c.lost.add .link })) ∧
  (∀ (i : Instr) (kind : Byte) (tag : Tag) (body : List Byte) (s : State), Settled s →
      i.request = some (kind, tag, body) →
      kind.toNat ∈ [0x03, 0x05, 0x09, 0x0A, 0x0C, 0x14, 0x1B, 0x1C, 0x1E, 0x1F, 0x20] →
      s.ctl.intake = .idle → s.ctl.queue.length = 16 →
      ∃ r, exec i s =
          .next { s with
            ctl := { s.ctl with receiver := .hunt, faultRun := false, intake := .handling (replyFrame kind tag r) } } ∧
        (kind.toNat ≠ 0x20 → ∀ q, q.length < 16 →
          exec i { s with ctl := { s.ctl with queue := q } } =
            .next (replied kind tag r { s with ctl := { s.ctl with queue := q } })))

/-- A frame that leaves the queue frees its place: a waiting reply takes it first, and a LOST notice with the lost set
follows when two places are free (R179, R180, R182). -/
def Obligations.LeavingFrameMakesRoom : Prop :=
  ∀ (f : OutFrame) (rest : List OutFrame) (s : State), Settled s → s.ctl.queue = f :: rest → rest.length ≤ 15 →
    ¬ (s.ctl.intake = .restarting ∧ f.isRestartOk = true) →
    ((∀ g, s.ctl.intake ≠ .handling g) → s.ctl.lost = .none ∨ 14 < rest.length →
      exec .outboundFrameSent s = .next { s with ctl := { s.ctl with queue := rest } }) ∧
    ((∀ g, s.ctl.intake ≠ .handling g) → s.ctl.lost ≠ .none → rest.length ≤ 14 →
      exec .outboundFrameSent s =
        .next { s with
          ctl := { s.ctl with queue := rest ++ [⟨0xD7, 0x0000, .notice (.lost s.ctl.lost)⟩], lost := .none } }) ∧
    (∀ g, s.ctl.intake = .handling g → s.ctl.lost = .none ∨ 13 < rest.length →
      exec .outboundFrameSent s =
        .next { s with
          ctl := { s.ctl with queue := rest ++ [g], intake := if g.isRestartOk then .restarting else .idle } }) ∧
    (∀ g, s.ctl.intake = .handling g → s.ctl.lost ≠ .none → rest.length ≤ 13 →
      exec .outboundFrameSent s =
        .next { s with
          ctl := { s.ctl with
            queue := rest ++ [g, ⟨0xD7, 0x0000, .notice (.lost s.ctl.lost)⟩], lost := .none
            intake := if g.isRestartOk then .restarting else .idle } })

/-- The restart takes effect as its reply leaves: the blocks keep and clear what their rules give, live takes are
converted against the last advanced position, HALT-ALL is raised and HELLO is the queue's one frame (R16, R38, R58, R87,
R112, R126, R141, R142, R164, R174, R187, R188). That a booth's last taken position is none again is the model's choice
(entry 20). -/
def Obligations.RestartResetsEveryBlock : Prop :=
  (∀ (f : OutFrame) (rest : List OutFrame) (s : State), Settled s → s.ctl.queue = f :: rest →
    s.ctl.intake = .restarting → f.isRestartOk = true →
    ∃ t, exec .outboundFrameSent s = .next t ∧
      t.chase = ⟨.noSignal, none, 0, none, 0, none, false, .stopped, .stopped⟩ ∧
      t.stage = s.stage ∧ t.reels = s.reels ∧ t.cues = s.cues.map (fun c => { c with mark := none }) ∧
      (∀ b, t.booth b =
        { s.booth b with state := .empty, active := none, staged := none, cutPending := false, window := [],
                         lastTaken := none }) ∧
      t.log.counter = s.log.counter ∧ t.log.bound = 1 ∧
      t.log.records = s.log.records.map (convertTake s.chase.lastAdvanced) ∧
      t.spans = s.spans.filterMap (convertSpan s.chase.lastAdvanced s.log.records) ∧
      t.link.flow = s.link.flow ∧ t.link.transmitter = s.link.transmitter ∧ t.link.startLane = [] ∧
      t.link.awaiting = [] ∧ t.link.outstanding = [] ∧
      t.link.stopLane = [⟨.haltAll, s.link.tagCounter, none, none, none, none, true⟩] ∧
      t.link.tagCounter = s.link.tagCounter + 1 ∧
      (∀ b, (t.lines.get b).timer = .running (2 * s.stage.rate.fps) s.stage.rate ∧ (t.lines.get b).sending = true ∧
        ((s.lines.get b).sending = false →
          (t.lines.get b).last = some ⟨0, .blank⟩ ∧ (t.lines.get b).waiting = none ∧ (t.lines.get b).seq = 1) ∧
        ((s.lines.get b).sending = true →
          (t.lines.get b).last = none ∧ (t.lines.get b).waiting = some .blank ∧ (t.lines.get b).seq = 0)) ∧
      t.ctl =
        ⟨.hunt, false, .idle, [⟨0xD8, 0x0000, .notice (.hello .restart s.ctl.enabled)⟩], .none, s.ctl.enabled,
          .restart⟩ ∧
      t.pending = s.pending) ∧
  ∀ (a e : Nat) (t : Take) (x : Span) (ts : List Take), e = min t.plannedEnd (a + 1) →
    x.serial = t.serial → ts.find? (fun u => decide (u.serial = x.serial)) = some t →
    (t.state = .planned →
      convertTake (some a) t =
        { t with state := .failed, reason := some .restart, spanEnd := none, closing := none } ∧
      convertSpan (some a) ts x = none) ∧
    (t.state = .opened ∨ t.state = .withdrawing → t.plannedStart < e →
      convertTake (some a) t =
        { t with state := .aborted, spanEnd := t.spanEnd.map (fun n => min n e), closing := none } ∧
      convertSpan (some a) ts x = some { x with stop := min x.stop e }) ∧
    (t.state = .opened ∨ t.state = .withdrawing → e ≤ t.plannedStart →
      convertTake (some a) t =
        { t with state := .failed, reason := some .restart, spanEnd := none, closing := none } ∧
      convertSpan (some a) ts x = none) ∧
    (t.state.isLive = false → convertTake (some a) t = t ∧ convertSpan (some a) ts x = some x)

/-- STATUS reads every block and changes nothing; IDENT gives the reset cause; NOTICE-SET stores the enable set and
leaves the queue and the lost set as they are (R163, R183, R184, R185). RESTART is accepted whatever the state of the
blocks, and its reply takes the intake to RESTARTING (R187). -/
def Obligations.PartWideRequestsAreAlwaysAccepted : Prop :=
  (∀ (tag : Tag) (s : State), CanReply s →
      (∃ booths : Quad BoothStatus,
        exec (.status tag []) s =
          .next (replied 0x1E tag (.status
            { chase := s.chase.state
              pos := if s.chase.state = .freewheel then s.chase.fwCount else s.chase.lastPos
              booths := booths, flow := s.link.flow, stopCount := s.link.stopLane.length
              startCount := s.link.startLane.length, awaitingCount := s.link.awaiting.length
              outstandingCount := s.link.outstanding.length, records := s.log.records.length
              spansInUse := s.spans.length, enabled := s.ctl.enabled, lost := s.ctl.lost }) s) ∧
        ∀ b, booths.get b =
          { state := (s.booth b).state, activeCount := (s.booth b).active.map (·.entries.length)
            stagedCount := (s.booth b).staged.map (·.entries.length), cursor := (s.booth b).active.map (·.cursor)
            front := (s.booth b).window.head?.map (·.cueId), back := (s.booth b).window[1]?.map (·.cueId)
            cutPending := (s.booth b).cutPending }) ∧
      exec (.ident tag []) s = .next (replied 0x1F tag (.ident s.ctl.resetCause) s) ∧
      (∀ (n : Byte) (classes : ClassSet), n.toNat < 64 → classes.byte = n →
        exec (.noticeSet tag [n]) s =
          .next (replied 0x1D tag (.enabled classes) { s with ctl := { s.ctl with enabled := classes } })) ∧
      (∀ n : Byte, 64 ≤ n.toNat → exec (.noticeSet tag [n]) s = .next (replied 0x1D tag (.refused .badValue) s))) ∧
  (∀ (tag : Tag) (s : State), CanReply s →
      exec (.restart tag []) s =
        .next { s with
          ctl := { s.ctl with
            receiver := .hunt, faultRun := false, intake := .restarting
            queue := s.ctl.queue ++ [⟨0xA0, tag, .reply .ok⟩] } })

/-! ## Reels, stage settings, cues -/

/-- REEL-DEFINE: an in-use reel, an overlap with another record and a full map are refused in that order, with
nothing changed; otherwise the record is stored under its id, in ascending reel id (R10, R12, R14). REEL-DROP refuses a
reel not held and a reel in use, and removes any other (R13). -/
def Obligations.ReelsAreDefinedAndDropped : Prop :=
  (∀ (tag : Tag) (body : List Byte) (r : Reel) (s : State), CanReply s → Ascending Reel.id s.reels →
      readReelDefine s.stage.rate body = .ok r →
      ((∃ x ∈ s.reels, x.id = r.id) → (∃ c ∈ s.cues, c.reel = r.id) →
        exec (.reelDefine tag body) s = .next (replied 0x01 tag (.refused .reelInUse) s)) ∧
      (¬ ((∃ x ∈ s.reels, x.id = r.id) ∧ ∃ c ∈ s.cues, c.reel = r.id) →
        (∃ x ∈ s.reels, x.id ≠ r.id ∧ x.start < r.start + r.length ∧ r.start < x.start + x.length) →
        exec (.reelDefine tag body) s = .next (replied 0x01 tag (.refused .reelOverlap) s)) ∧
      (¬ ((∃ x ∈ s.reels, x.id = r.id) ∧ ∃ c ∈ s.cues, c.reel = r.id) →
        (∀ x ∈ s.reels, x.id ≠ r.id → x.start + x.length ≤ r.start ∨ r.start + r.length ≤ x.start) →
        ((∀ x ∈ s.reels, x.id ≠ r.id) → 12 ≤ s.reels.length →
          exec (.reelDefine tag body) s = .next (replied 0x01 tag (.refused .reelTableFull) s)) ∧
        ((∃ x ∈ s.reels, x.id = r.id) ∨ s.reels.length < 12 →
          ∃ new, Stored Reel.id r s.reels new ∧
            exec (.reelDefine tag body) s = .next (replied 0x01 tag (.reel r) { s with reels := new })))) ∧
  (∀ (tag : Tag) (id : Byte) (s : State), CanReply s → 1 ≤ id.toNat → id.toNat ≤ 12 →
      ((∀ r ∈ s.reels, r.id ≠ id.toNat) →
        exec (.reelDrop tag [id]) s = .next (replied 0x02 tag (.refused .noSuchReel) s)) ∧
      ((∃ r ∈ s.reels, r.id = id.toNat) → (∃ c ∈ s.cues, c.reel = id.toNat) →
        exec (.reelDrop tag [id]) s = .next (replied 0x02 tag (.refused .reelInUse) s)) ∧
      ((∃ r ∈ s.reels, r.id = id.toNat) → (∀ c ∈ s.cues, c.reel ≠ id.toNat) →
        exec (.reelDrop tag [id]) s =
          .next (replied 0x02 tag .ok { s with reels := s.reels.filter fun r => decide (r.id ≠ id.toNat) })))

/-- A line [in, out) is placed in the reel that holds both its first and its last frame, and in none otherwise
(R8, R10, R11). -/
def Obligations.LineIsPlacedInOneReel : Prop :=
  ∀ (s : State) (inPos outPos id : Nat), ReelMapSound s → inPos < outPos →
    (placeLine s.reels inPos outPos = some id ↔
      ∃ r ∈ s.reels, r.id = id ∧ r.start ≤ inPos ∧ outPos ≤ r.start + r.length)

/-- STAGE-GET carries no body and is answered with the six settings as they stand; a body gives BAD_LENGTH (R37, R178,
R195). The layout of the reply's bytes is the model's (entry 10). -/
def Obligations.StageGetReportsTheSixSettings : Prop :=
  ∀ (tag : Tag) (body : List Byte) (s : State), CanReply s →
    (body = [] → exec (.stageGet tag body) s = .next (replied 0x05 tag (.stage s.stage) s)) ∧
    (body ≠ [] → exec (.stageGet tag body) s = .next (replied 0x05 tag (.refused .badLength) s)) ∧
    replyBytes (.stage s.stage) =
      [0, byteOf s.stage.rate.code, byteOf s.stage.lockCount, byteOf s.stage.fwLimit, byteOf s.stage.latency,
        byteOf s.stage.pre, byteOf s.stage.post]

/-- STAGE-SET: refused while a booth is ROLLING, HELD or STOPPING, then for a new rate with a cue or reel held; else the
settings are stored, and a new rate returns the chase unit to NO_SIGNAL with a frame due on every line (R34, R36). -/
def Obligations.StageSetStoresOrRefuses : Prop :=
  ∀ (tag : Tag) (body : List Byte) (x : Stage) (s : State), CanReply s → readStageSet body = .ok x →
    ((∃ b, (s.booth b).state = .rolling ∨ (s.booth b).state = .held ∨ (s.booth b).state = .stopping) →
      exec (.stageSet tag body) s = .next (replied 0x04 tag (.refused .wrongState) s)) ∧
    ((∀ b, (s.booth b).state = .empty ∨ (s.booth b).state = .ready ∨ (s.booth b).state = .done) →
      (x.rate ≠ s.stage.rate → s.cues ≠ [] ∨ s.reels ≠ [] →
        exec (.stageSet tag body) s = .next (replied 0x04 tag (.refused .rateLocked) s)) ∧
      (x.rate = s.stage.rate →
        exec (.stageSet tag body) s = .next (replied 0x04 tag (.stage x) { s with stage := x })) ∧
      (x.rate ≠ s.stage.rate → s.cues = [] → s.reels = [] →
        ∃ t, exec (.stageSet tag body) s = .next t ∧ t.stage = x ∧
          t.chase = ⟨.noSignal, none, 0, none, 0, none, false, .stopped, .stopped⟩ ∧ t.booths = s.booths ∧
          t.link = s.link ∧ t.log = s.log ∧ t.spans = s.spans ∧ t.cues = [] ∧ t.reels = [] ∧
          (∀ b, (t.lines.get b).timer = .running (2 * x.rate.fps) x.rate ∧ (t.lines.get b).sending = true ∧
            ∃ c, c.picture = .noSignal ∧ c.display = none ∧
              ((s.lines.get b).sending = false → (t.lines.get b).last = some ⟨(s.lines.get b).seq, c⟩) ∧
              ((s.lines.get b).sending = true → (t.lines.get b).waiting = some c)) ∧
          Answered 0x04 tag (.stage x) s t ∧
          (s.chase.state = .locked ∨ s.chase.state = .freewheel →
            Heard [.chase s.chase.state .noSignal none (some .stage)] s t) ∧
          (s.chase.state ≠ .noSignal → s.chase.state ≠ .locked → s.chase.state ≠ .freewheel →
            Heard [.chase s.chase.state .noSignal none none] s t)))

/-- CUE-PUT: the placement checks, the pass mark of a held record and a full table refuse, in that order; else the
record is stored with its derived reel, a new one with the next take above every take number held for its id, a
replaced one with its next take kept (R42, R43, R44, R45). -/
def Obligations.CuePutStoresOrRefuses : Prop :=
  ∀ (tag : Tag) (body : List Byte) (f : CueFields) (s : State), CanReply s → CueTableSound s →
    readCuePut s.stage.rate body = .ok f →
    (f.outPos ≤ f.inPos ∨ f.inPos + 9000 < f.outPos ∨ f.inPos < s.stage.pre →
      exec (.cuePut tag body) s = .next (replied 0x06 tag (.refused .badValue) s)) ∧
    (f.inPos < f.outPos → f.outPos ≤ f.inPos + 9000 → s.stage.pre ≤ f.inPos →
      (placeLine s.reels f.inPos f.outPos = none →
        exec (.cuePut tag body) s = .next (replied 0x06 tag (.refused .offReel) s)) ∧
      ∀ reel, placeLine s.reels f.inPos f.outPos = some reel →
        (∀ c ∈ s.cues, c.fields.id = f.id → c.mark ≠ none →
          exec (.cuePut tag body) s = .next (replied 0x06 tag (.refused .cueInPass) s)) ∧
        (∀ c ∈ s.cues, c.fields.id = f.id → c.mark = none →
          ∃ new, Stored (·.fields.id) ⟨f, reel, c.nextTake, none⟩ s.cues new ∧
            exec (.cuePut tag body) s =
              .next (replied 0x06 tag (.cue ⟨f, reel, c.nextTake, none⟩) { s with cues := new })) ∧
        ((∀ c ∈ s.cues, c.fields.id ≠ f.id) → s.cues.length = 1024 →
          exec (.cuePut tag body) s = .next (replied 0x06 tag (.refused .cueTableFull) s)) ∧
        ((∀ c ∈ s.cues, c.fields.id ≠ f.id) → s.cues.length < 1024 →
          ∃ n new, (∀ t ∈ s.log.records, t.cue = f.id → t.number < n) ∧
            (n = 1 ∨ ∃ t ∈ s.log.records, t.cue = f.id ∧ n = t.number + 1) ∧
            Stored (·.fields.id) ⟨f, reel, n, none⟩ s.cues new ∧
            exec (.cuePut tag body) s = .next (replied 0x06 tag (.cue ⟨f, reel, n, none⟩) { s with cues := new })))

/-- CUE-AMEND writes the selected fields of a held record and leaves the others; in and out are refused on a marked cue
and placed anew otherwise (R46, R47). -/
def Obligations.CueAmendWritesTheSelectedFields : Prop :=
  ∀ (tag : Tag) (body : List Byte) (sel : CueSelect) (f new : CueFields) (held : Cue) (s : State), CanReply s →
    CueTableSound s → readCueAmend s.stage.rate body = .ok (sel, f) →
    ((∀ c ∈ s.cues, c.fields.id ≠ f.id) →
      exec (.cueAmend tag body) s = .next (replied 0x07 tag (.refused .noSuchCue) s)) ∧
    (held ∈ s.cues → held.fields.id = f.id →
      new =
        { id := f.id
          inPos := if sel.inPos then f.inPos else held.fields.inPos
          outPos := if sel.outPos then f.outPos else held.fields.outPos
          character := if sel.character then f.character else held.fields.character
          tracks := if sel.tracks then f.tracks else held.fields.tracks
          streamer := if sel.streamer then f.streamer else held.fields.streamer
          beep := if sel.beep then f.beep else held.fields.beep
          guide := if sel.guide then f.guide else held.fields.guide
          scriptRef := if sel.scriptRef then f.scriptRef else held.fields.scriptRef } →
      (sel.inPos = false → sel.outPos = false →
        ∃ cs, Stored (·.fields.id) { held with fields := new } s.cues cs ∧
          exec (.cueAmend tag body) s =
            .next (replied 0x07 tag (.cue { held with fields := new }) { s with cues := cs })) ∧
      (sel.inPos = true ∨ sel.outPos = true →
        (held.mark ≠ none → exec (.cueAmend tag body) s = .next (replied 0x07 tag (.refused .cueInPass) s)) ∧
        (held.mark = none → new.outPos ≤ new.inPos ∨ new.inPos + 9000 < new.outPos ∨ new.inPos < s.stage.pre →
          exec (.cueAmend tag body) s = .next (replied 0x07 tag (.refused .badValue) s)) ∧
        (held.mark = none → new.inPos < new.outPos → new.outPos ≤ new.inPos + 9000 → s.stage.pre ≤ new.inPos →
          (placeLine s.reels new.inPos new.outPos = none →
            exec (.cueAmend tag body) s = .next (replied 0x07 tag (.refused .offReel) s)) ∧
          ∀ reel, placeLine s.reels new.inPos new.outPos = some reel →
            ∃ cs, Stored (·.fields.id) { held with fields := new, reel := reel } s.cues cs ∧
              exec (.cueAmend tag body) s =
                .next (replied 0x07 tag (.cue { held with fields := new, reel := reel }) { s with cues := cs }))))

/-- CUE-DROP: an unknown cue, a marked cue and a cue with a take in a span-holding state are refused, in that order;
else the record is removed and its take records stay (R49). -/
def Obligations.CueDropRemovesAnIdleCue : Prop :=
  ∀ (tag : Tag) (body : List Byte) (id : Nat) (s : State), CanReply s → CueTableSound s → readCueId body = .ok id →
    ((∀ c ∈ s.cues, c.fields.id ≠ id) →
      exec (.cueDrop tag body) s = .next (replied 0x08 tag (.refused .noSuchCue) s)) ∧
    ∀ held ∈ s.cues, held.fields.id = id →
      (held.mark ≠ none → exec (.cueDrop tag body) s = .next (replied 0x08 tag (.refused .cueInPass) s)) ∧
      (held.mark = none →
        (∃ t ∈ s.log.records, t.cue = id ∧
          t.state ∈ [TakeState.planned, .opened, .withdrawing, .kept, .truncated, .aborted]) →
        exec (.cueDrop tag body) s = .next (replied 0x08 tag (.refused .cueHasTakes) s)) ∧
      (held.mark = none →
        (∀ t ∈ s.log.records, t.cue = id → t.state ∈ [TakeState.failed, .overwritten, .dropped]) →
        exec (.cueDrop tag body) s =
          .next (replied 0x08 tag (.cueId id) { s with cues := s.cues.filter fun c => decide (c.fields.id ≠ id) }))

/-- CUE-GET gives the whole record of a held cue as it stands, and NO_SUCH_CUE when none is held (R50). -/
def Obligations.CueGetReportsTheWholeRecord : Prop :=
  ∀ (tag : Tag) (body : List Byte) (id : Nat) (s : State), CanReply s → CueTableSound s → readCueId body = .ok id →
    ((∀ c ∈ s.cues, c.fields.id ≠ id) →
      exec (.cueGet tag body) s = .next (replied 0x09 tag (.refused .noSuchCue) s)) ∧
    ∀ held ∈ s.cues, held.fields.id = id →
      exec (.cueGet tag body) s = .next (replied 0x09 tag (.cue held) s) ∧
      replyBytes (.cue held) = 0 :: (cueFieldBytes held.fields ++
        [byteOf held.reel, byteOf held.nextTake, markByte held.mark])

/-- The listing requests change nothing. REEL-LIST gives every record; CUE-LIST up to eight cues from an id on in
ascending id with a more flag; TRACK-GET a track's span count and up to 16 of its spans from an index on, none when the
index lies above the count; LINE-GET a line's last frame (R15, R51, R125, R169). -/
def Obligations.ListsReportWhatIsHeld : Prop :=
  ∀ (tag : Tag) (body : List Byte) (s : State), CanReply s →
    (body = [] → exec (.reelList tag body) s = .next (replied 0x03 tag (.reels s.reels) s)) ∧
    (∀ start, readCueId body = .ok start → CueTableSound s →
      ∃ cs later, cs.length ≤ 8 ∧ (later ≠ [] → cs.length = 8) ∧
        cs ++ later = s.cues.filter (fun c => decide (start ≤ c.fields.id)) ∧
        (∀ c ∈ cs, ∀ x ∈ later, c.fields.id < x.fields.id) ∧
        exec (.cueList tag body) s = .next (replied 0x0A tag (.cues cs (decide (later ≠ []))) s)) ∧
    (∀ track start, readTrackGet body = .ok (track, start) →
      ∃ all given later, all = s.spans.filter (fun x => decide (x.track = track)) ∧
        (start ≤ all.length → ∃ earlier, earlier.length + 1 = start ∧ earlier ++ given ++ later = all) ∧
        (all.length < start → given = [] ∧ later = []) ∧ given.length ≤ 16 ∧ (later ≠ [] → given.length = 16) ∧
        exec (.trackGet tag body) s =
          .next (replied 0x14 tag (.track track all.length given (decide (later ≠ []))) s)) ∧
    (∀ b, readBooth body = .ok b →
      exec (.lineGet tag body) s = .next (replied 0x1C tag (.line (s.lines.get b).last) s))

/-! ## Takes -/

/-- TAKE-MARK with any of its operations: an unknown serial and a take that would be circled outside the closed states
are refused, the first in request order named; else every named take takes its new circled value in one event and
nothing else changes (R133, R134). That a row whose body names another operation is taken by its body is the model's
(entry 6). -/
def Obligations.TakeMarkCirclesClosedTakes : Prop :=
  ∀ (i : Instr) (tag : Tag) (body : List Byte) (op : SetOp) (serials : List Nat) (s : State), CanReply s →
    SerialsSound s → i ∈ [Instr.takeMarkSet tag body, .takeMarkClear tag body, .takeMarkInvert tag body] →
    readTakeMark body = .ok (op, serials) →
    (∀ earlier n later, serials = earlier ++ n :: later → (∀ t ∈ s.log.records, t.serial ≠ n) →
      (∀ m ∈ earlier, ∃ t ∈ s.log.records, t.serial = m) →
      exec i s = .next (replied 0x15 tag (.refusedTake .noSuchTake n) s)) ∧
    ((∀ n ∈ serials, ∃ t ∈ s.log.records, t.serial = n) →
      (∀ earlier n later, serials = earlier ++ n :: later →
        (∃ t ∈ s.log.records, t.serial = n ∧ t.state.isClosed = false ∧
          (op = .set ∨ (op = .invert ∧ t.circled = false))) →
        (∀ t ∈ s.log.records, t.serial ∈ earlier → t.state.isClosed = true ∨ op = .clear ∨
          (op = .invert ∧ t.circled = true)) →
        exec i s = .next (replied 0x15 tag (.refusedTake .notMarkable n) s)) ∧
      ((∀ t ∈ s.log.records, t.serial ∈ serials → t.state.isClosed = true ∨ op = .clear ∨
          (op = .invert ∧ t.circled = true)) →
        ∃ values new, exec i s =
            .next (replied 0x15 tag (.marks values) { s with log := { s.log with records := new } }) ∧
          new = s.log.records.map (fun t =>
            if t.serial ∈ serials then
              { t with circled := match op with
                | .set => true
                | .clear => false
                | .invert => !t.circled }
            else t) ∧
          values.map (·.1) = serials ∧ ∀ t ∈ new, ∀ v, (t.serial, v) ∈ values → v = t.circled))

/-- TAKE-DROP: an unknown serial, a live take, a terminal take and a circled take are refused; an uncircled closed take
becomes DROPPED, its span is released, its frames and flags stay, and a TAKE notice is posted (R121, R130, R135). -/
def Obligations.TakeDropReleasesAClosedTake : Prop :=
  ∀ (tag : Tag) (body : List Byte) (n : Nat) (s : State), CanReply s → SerialsSound s → readSerial body = .ok n →
    ((∀ t ∈ s.log.records, t.serial ≠ n) →
      exec (.takeDrop tag body) s = .next (replied 0x16 tag (.refused .noSuchTake) s)) ∧
    ∀ t ∈ s.log.records, t.serial = n →
      (t.state ∈ [TakeState.planned, .opened, .withdrawing] →
        exec (.takeDrop tag body) s = .next (replied 0x16 tag (.refused .takeLive) s)) ∧
      (t.state ∈ [TakeState.failed, .overwritten, .dropped] →
        exec (.takeDrop tag body) s = .next (replied 0x16 tag (.refused .wrongState) s)) ∧
      (t.state ∈ [TakeState.kept, .truncated, .aborted] → t.circled = true →
        exec (.takeDrop tag body) s = .next (replied 0x16 tag (.refused .takeCircled) s)) ∧
      (t.state ∈ [TakeState.kept, .truncated, .aborted] → t.circled = false →
        ∃ dropped u, dropped = { t with state := .dropped, spanEnd := none, reason := none, closing := none } ∧
          exec (.takeDrop tag body) s = .next u ∧
          u = { s with
            log := { s.log with records := s.log.records.map fun x => if x.serial = n then dropped else x }
            spans := s.spans.filter fun x => decide (x.serial ≠ n)
            ctl := u.ctl, free := u.free } ∧
          Answered 0x16 tag (.dropped n t.track t.spanEnd) s u ∧ Heard [.take .state dropped] s u)

/-- LOG-SEEK sets the bound to 1, to the newest record's serial (the counter's value with an empty log) or to the
serial named, and answers the serial of the record now under the cursor; a serial of 0 gives BAD_VALUE (R136, R137). -/
def Obligations.LogSeekSetsTheBound : Prop :=
  ∀ (tag : Tag) (s : State), CanReply s → SerialsSound s →
    (∃ under, exec (.logSeekOldest tag [0, 0, 0, 0, 0]) s =
        .next (replied 0x17 tag (.seek under) { s with log := { s.log with bound := 1 } }) ∧
      under = s.log.records.head?.map (·.serial)) ∧
    (∃ under, exec (.logSeekNewest tag [1, 0, 0, 0, 0]) s =
        .next (replied 0x17 tag (.seek under)
          { s with log := { s.log with
              bound := (s.log.records.getLast?.map (·.serial)).getD s.log.counter } }) ∧
      under = s.log.records.getLast?.map (·.serial)) ∧
    (∀ n, 1 ≤ n → n ≤ 4294967295 →
      ∃ under, exec (.logSeekSerial tag (2 :: beBytes 4 n)) s =
          .next (replied 0x17 tag (.seek under) { s with log := { s.log with bound := n } }) ∧
        (under = none → ∀ t ∈ s.log.records, t.serial < n) ∧
        ∀ m, under = some m → n ≤ m ∧ (∃ t ∈ s.log.records, t.serial = m) ∧
          ∀ t ∈ s.log.records, n ≤ t.serial → m ≤ t.serial) ∧
    exec (.logSeekSerial tag [2, 0, 0, 0, 0]) s = .next (replied 0x17 tag (.refused .badValue) s)

/-- LOG-READ gives up to the count of records at or above the bound, in ascending serial, with the oldest serial and an
end flag, and moves the bound behind the last one given; a count outside 1 to 8 gives BAD_VALUE (R138). -/
def Obligations.LogReadWalksTheLog : Prop :=
  ∀ (tag : Tag) (count : Byte) (s : State), CanReply s → SerialsSound s →
    (count.toNat = 0 ∨ 8 < count.toNat →
      exec (.logRead tag [count]) s = .next (replied 0x18 tag (.refused .badValue) s)) ∧
    (1 ≤ count.toNat → count.toNat ≤ 8 →
      ∃ given later, given ++ later = s.log.records.filter (fun t => decide (s.log.bound ≤ t.serial)) ∧
        given.length ≤ count.toNat ∧ (later ≠ [] → given.length = count.toNat) ∧
        exec (.logRead tag [count]) s =
          .next (replied 0x18 tag
            (.log given (decide (later = [])) (s.log.records.head?.map (·.serial)))
            { s with log := { s.log with
                bound := (given.getLast?.map (fun t => t.serial + 1)).getD s.log.bound } }))

/-! ## Booth settings -/

/-- BOOTH-SET stores the five settings, but in ROLLING, HELD and STOPPING it is refused. BOOTH-FILTER with any operation
applies all listed ids in one step and answers the filter in ascending order (R166, R167). That a row whose body names another
operation is taken by its body is the model's (entry 6). -/
def Obligations.BoothSetAndFilter : Prop :=
  ∀ (tag : Tag) (body : List Byte) (b : BoothId) (s : State), CanReply s →
    (∀ x, readBoothSet body = .ok (b, x) →
      ((s.booth b).state ∈ [BoothState.rolling, .held, .stopping] →
        exec (.boothSet tag body) s = .next (replied 0x19 tag (.refused .wrongState) s)) ∧
      ((s.booth b).state ∈ [BoothState.empty, .ready, .done] →
        exec (.boothSet tag body) s =
          .next (replied 0x19 tag (.boothSettings x)
            { s with booths := s.booths.set b { s.booth b with settings := x } }))) ∧
    ∀ i op ids, i ∈ [Instr.boothFilterSet tag body, .boothFilterClear tag body, .boothFilterInvert tag body] →
      readBoothFilter body = .ok ⟨b, op, ids⟩ →
      ∃ new : List Nat,
        exec i s =
          .next (replied 0x1A tag (.filter new) { s with booths := s.booths.set b { s.booth b with filter := new } }) ∧
        new.Pairwise (· < ·) ∧
        ∀ c < 64, c ∈ new ↔
          match op with
          | .set => c ∈ (s.booth b).filter ∨ c ∈ ids
          | .clear => c ∈ (s.booth b).filter ∧ c ∉ ids
          | .invert => (c ∈ (s.booth b).filter ∧ c ∉ ids) ∨ (c ∉ (s.booth b).filter ∧ c ∈ ids)

/-- BOOTH-GET carries a booth and is answered with its five settings and its filter as they stand (R168). The layout of the
reply's bytes is the model's (entry 10). -/
def Obligations.BoothGetReportsSettingsAndFilter : Prop :=
  ∀ (tag : Tag) (b : BoothId) (s : State), CanReply s →
    exec (.boothGet tag [byteOf (boothNumber b)]) s =
      .next (replied 0x1B tag (.booth (s.booth b).settings (s.booth b).filter) s) ∧
    replyBytes (.booth (s.booth b).settings (s.booth b).filter) =
      0 :: (settingsBytes (s.booth b).settings ++
        (byteOf (s.booth b).filter.length :: (s.booth b).filter.map byteOf))

/-! ## Passes and booth states -/

/-- The range form of PASS-BUILD selects the cues whose in lies in the range and that the filter, the marks and the
unfinished-only option do not leave out. The list form refuses a repeated id, an id not held and a cue of another
booth's pass, in that order and naming the first; which repeated id BAD_VALUE names is entry 14, and a row whose body is
of the other form is taken by its body, entry 6: both are the model's. Both forms then build of their cues by R65 and R66;
the reply gives the reach end reduced modulo the frames per day (R2, R7, R53, R61, R63, R64; entry 21). -/
def Obligations.PassBuildSelectsAndStages : Prop :=
  (∀ (i : Instr) (tag : Tag) (body : List Byte) (r : BuildRequest) (first last : Nat) (unfinishedOnly : Bool)
      (s : State), CanReply s → CueTableSound s → i ∈ [Instr.passBuildRange tag body, .passBuildList tag body] →
      readPassBuild s.stage.rate body = .ok r → r.selection = .range first last unfinishedOnly →
      BuildGives r tag s
        (fun c => first ≤ c.fields.inPos ∧ c.fields.inPos ≤ last ∧
          ((s.booth r.booth).filter = [] ∨ c.fields.character ∈ (s.booth r.booth).filter) ∧
          (∀ m, c.mark = some m → m.booth = r.booth) ∧
          (unfinishedOnly = true → ∀ t ∈ s.log.records, t.cue = c.fields.id → t.circled = false))
        (exec i s)) ∧
  (∀ (i : Instr) (tag : Tag) (body : List Byte) (r : BuildRequest) (ids carried : List Nat) (s : State), CanReply s →
      CueTableSound s → i ∈ [Instr.passBuildList tag body, .passBuildRange tag body] →
      readPassBuild s.stage.rate body = .ok r → r.selection = .list ids →
      carried = (if r.extend then passCues (s.booth r.booth).staged else []) →
      (∀ earlier n later, ids = earlier ++ n :: later → earlier.Nodup → (∀ m ∈ earlier, m ∉ carried) →
        n ∈ earlier ∨ n ∈ carried → exec i s = .next (replied 0x0B tag (.refusedCue .badValue n) s)) ∧
      (ids.Nodup → (∀ m ∈ ids, m ∉ carried) →
        (∀ earlier n later, ids = earlier ++ n :: later →
          (∀ m ∈ earlier, ∃ c ∈ s.cues, c.fields.id = m) → (∀ c ∈ s.cues, c.fields.id ≠ n) →
          exec i s = .next (replied 0x0B tag (.refusedCue .noSuchCue n) s)) ∧
        ((∀ m ∈ ids, ∃ c ∈ s.cues, c.fields.id = m) →
          (∀ earlier n later, ids = earlier ++ n :: later →
            (∀ c ∈ s.cues, c.fields.id ∈ earlier → c.markedByOther r.booth = false) →
            (∃ c ∈ s.cues, c.fields.id = n ∧ c.markedByOther r.booth = true) →
            exec i s = .next (replied 0x0B tag (.refusedCue .cueInPass n) s)) ∧
          ((∀ c ∈ s.cues, c.fields.id ∈ ids → c.markedByOther r.booth = false) →
            BuildGives r tag s (fun c => c.fields.id ∈ ids) (exec i s)))))

/-- PASS-GET reports a context as it stands, with up to 32 entries from the start index on, a more flag, and for the
active context whether a cut-over is pending (R67). The reach end is sent reduced modulo the frames per day, which R2 and
R7 call for and no rule says of this field (entry 21). -/
def Obligations.PassGetReportsAContext : Prop :=
  ∀ (tag : Tag) (body : List Byte) (r : PassGetRequest) (c : Option Context) (pending : Option Bool) (s : State),
    CanReply s → readPassGet body = .ok r →
    (c, pending) = (if r.staged then ((s.booth r.booth).staged, none)
      else ((s.booth r.booth).active, some (s.booth r.booth).cutPending)) →
    (c = none → exec (.passGet tag body) s = .next (replied 0x0C tag (.pass ⟨none, [], false, pending⟩) s)) ∧
    ∀ ctx, c = some ctx →
      ∃ earlier given later, earlier ++ given ++ later = ctx.entries ∧
        (r.start ≤ ctx.entries.length → earlier.length + 1 = r.start) ∧
        (ctx.entries.length < r.start → given = []) ∧
        given.length ≤ 32 ∧ (later ≠ [] → given.length = 32) ∧
        exec (.passGet tag body) s =
          .next (replied 0x0C tag (.pass
            ⟨some ⟨ctx.mode, ctx.policy, ctx.limit, ctx.kept, ctx.entries.length, ctx.cursor,
                (ctx.reachEnd % (s.stage.rate.perDay : Int)).toNat⟩, given, decide (later ≠ []), pending⟩) s)

/-- PASS-CUTOVER: refused without a staged pass; in ROLLING and STOPPING it sets the pending flag alone; in EMPTY, READY,
HELD and DONE the staged pass becomes the active one at once, with the marks of R53 and its notices
(R53, R73, R75, R85). -/
def Obligations.PassCutoverSwapsThePasses : Prop :=
  ∀ (tag : Tag) (b : BoothId) (v : Booth) (s : State), CanReply s → v = s.booth b →
    (v.staged = none →
      exec (.passCutover tag [byteOf (boothNumber b)]) s = .next (replied 0x0D tag (.refused .noStaged) s)) ∧
    (v.staged ≠ none → v.state = .rolling ∨ v.state = .stopping →
      exec (.passCutover tag [byteOf (boothNumber b)]) s =
        .next (replied 0x0D tag (.cutover true) { s with booths := s.booths.set b { v with cutPending := true } })) ∧
    ∀ ctx new, v.staged = some ctx → v.state ≠ .rolling → v.state ≠ .stopping →
      new = (if v.state = .held then BoothState.held else .ready) →
      ∃ t, exec (.passCutover tag [byteOf (boothNumber b)]) s = .next t ∧
        t = { s with
          cues := s.cues.map fun c =>
            if c.fields.id ∈ passCues (some ctx) then { c with mark := some ⟨b, true, false⟩ }
            else if c.fields.id ∈ passCues v.active then c.clearActive b else c
          booths := s.booths.set b
            { v with
              state := new
              active := some
                { ctx with kept := 0, cursor := some 1
                           entries := ctx.entries.map fun e => { e with live := false, takesMade := 0 } }
              staged := none, cutPending := false }
          ctl := t.ctl, free := t.free } ∧
        Answered 0x0D tag (.cutover false) s t ∧
        (v.state = .ready ∨ v.state = .held →
          Heard [.cutover b ctx.entries.length v.cutPending] s t) ∧
        (v.state = .empty ∨ v.state = .done →
          Heard [.cutover b ctx.entries.length v.cutPending, .boothState b v.state .ready .cutover none none] s t)

/-- PASS-DISCARD is taken in every booth state: it empties the staged pass, clears its cues' staged flags and the
pending flag, leaves the active pass, the window and the booth state, and answers the number of entries (R74). -/
def Obligations.PassDiscardEmptiesTheStagedPass : Prop :=
  ∀ (tag : Tag) (b : BoothId) (s : State), CanReply s →
    exec (.passDiscard tag [byteOf (boothNumber b)]) s =
      .next (replied 0x0E tag (.entryCount (passCues (s.booth b).staged).length)
        { s with
          cues := s.cues.map fun c =>
            if c.fields.id ∈ passCues (s.booth b).staged then
              (match c.mark with
              | some m => if m.booth = b then { c with mark := if m.active then some ⟨b, true, false⟩ else none } else c
              | none => c)
            else c
          booths := s.booths.set b { s.booth b with staged := none, cutPending := false } })

/-- PASS-STOP by booth state: refused in EMPTY and DONE, DONE from READY and HELD with no cut-over pending, no change
in STOPPING; from ROLLING it closes the window against the booth's last taken position and the booth leaves for DONE,
or with a take OPEN it closes the other entry so and gives STOPPING. PASS-ABORT: refused in EMPTY and DONE, DONE from
READY and HELD with no cut-over pending; from ROLLING and STOPPING it closes the window so and the booth leaves for
DONE. Each change of booth state and a cut-over carried out then post their BOOTH notices (R75, R79, R81, R85, R108).
What closing a window does to takes and orders is the statement ClosingDealsWithTheTake. -/
def Obligations.PassStopAndAbortByBoothState : Prop :=
  (∀ (tag : Tag) (b : BoothId) (v : Booth) (s : State), CanReply s → v = s.booth b →
      (v.state = .empty ∨ v.state = .done →
        exec (.passStop tag [byteOf (boothNumber b)]) s = .next (replied 0x0F tag (.refused .wrongState) s)) ∧
      (v.state = .stopping →
        exec (.passStop tag [byteOf (boothNumber b)]) s = .next (replied 0x0F tag (.stop true) s)) ∧
      (v.state = .ready ∨ v.state = .held → v.cutPending = false →
        ∃ t, exec (.passStop tag [byteOf (boothNumber b)]) s = .next t ∧
          t = { s with booths := s.booths.set b { v with state := .done }, ctl := t.ctl, free := t.free } ∧
          Answered 0x0F tag (.stop false) s t ∧
          Heard [.boothState b v.state .done .stop (v.active.map (·.kept)) (v.active.map (·.entries.length))] s t) ∧
      (v.state = .rolling → openEntry b s = none →
        ∃ t, exec (.passStop tag [byteOf (boothNumber b)]) s = .next t ∧ LeftFor b .done s t ∧
          (t.booth b).window = [] ∧ Answered 0x0F tag (.stop false) s t ∧ Elsewhere s t ∧
          HeardBeside v.window.length (leaveNotices b .done .stop v) s t ∧
          (∀ last, v.lastTaken = some last → TakesAndOrdersOf (closeWindow b last none s) t) ∧
          ∀ c, c ≠ b → t.booth c = s.booth c) ∧
      ∀ e, v.state = .rolling → openEntry b s = some e →
        ∃ t, exec (.passStop tag [byteOf (boothNumber b)]) s = .next t ∧ (t.booth b).state = .stopping ∧
          (t.booth b).window = v.window.filter (fun x => decide (x.cueId = e.cueId)) ∧
          (t.booth b).staged = v.staged ∧ (t.booth b).cutPending = v.cutPending ∧
          Answered 0x0F tag (.stop true) s t ∧ Elsewhere s t ∧ TakesAndOrdersOf (closeOthers b e s) t ∧
          HeardBeside v.window.length [.boothState b .rolling .stopping .stop none none] s t ∧
          ∀ c, c ≠ b → t.booth c = s.booth c) ∧
  (∀ (tag : Tag) (b : BoothId) (v : Booth) (s : State), CanReply s → v = s.booth b →
      (v.state = .empty ∨ v.state = .done →
        exec (.passAbort tag [byteOf (boothNumber b)]) s = .next (replied 0x10 tag (.refused .wrongState) s)) ∧
      (v.state = .ready ∨ v.state = .held → v.cutPending = false →
        ∃ t, exec (.passAbort tag [byteOf (boothNumber b)]) s = .next t ∧
          t = { s with booths := s.booths.set b { v with state := .done }, ctl := t.ctl, free := t.free } ∧
          Answered 0x10 tag .ok s t ∧
          Heard [.boothState b v.state .done .abort (v.active.map (·.kept)) (v.active.map (·.entries.length))] s t) ∧
      (v.state = .rolling ∨ v.state = .stopping →
        ∃ t, exec (.passAbort tag [byteOf (boothNumber b)]) s = .next t ∧ LeftFor b .done s t ∧
          (t.booth b).window = [] ∧ Answered 0x10 tag .ok s t ∧ Elsewhere s t ∧
          HeardBeside v.window.length (leaveNotices b .done .abort v) s t ∧
          (∀ last, v.lastTaken = some last → TakesAndOrdersOf (closeWindow b last none s) t) ∧
          ∀ c, c ≠ b → t.booth c = s.booth c))

/-- PASS-CLEAR empties the active pass of a READY or DONE booth. BOOTH-HOLD takes a READY booth with no cut-over
pending to HELD, closes the window of a ROLLING one against its last taken position, which leaves for HELD, and leaves
a HELD one as it is. BOOTH-RELEASE takes a HELD booth to READY. Each is refused in the other states, and each change
of state posts its BOOTH notices (R53, R75, R82, R83, R84, R85, R108). -/
def Obligations.ClearHoldAndRelease : Prop :=
  ∀ (tag : Tag) (b : BoothId) (v : Booth) (s : State), CanReply s → v = s.booth b →
    (v.state ∉ [BoothState.ready, .done] →
      exec (.passClear tag [byteOf (boothNumber b)]) s = .next (replied 0x11 tag (.refused .wrongState) s)) ∧
    (v.state ∈ [BoothState.ready, .done] →
      ∃ t, exec (.passClear tag [byteOf (boothNumber b)]) s = .next t ∧
        t = { s with
          cues := s.cues.map fun c => if c.fields.id ∈ passCues v.active then c.clearActive b else c
          booths := s.booths.set b { v with state := .empty, active := none }, ctl := t.ctl, free := t.free } ∧
        Answered 0x11 tag (.entryCount (passCues v.active).length) s t ∧
        Heard [.boothState b v.state .empty .clear none none] s t) ∧
    (v.state ∈ [BoothState.empty, .stopping, .done] →
      exec (.boothHold tag [byteOf (boothNumber b)]) s = .next (replied 0x12 tag (.refused .wrongState) s)) ∧
    (v.state = .held → exec (.boothHold tag [byteOf (boothNumber b)]) s = .next (replied 0x12 tag .ok s)) ∧
    (v.state = .ready → v.cutPending = false →
      ∃ t, exec (.boothHold tag [byteOf (boothNumber b)]) s = .next t ∧
        t = { s with booths := s.booths.set b { v with state := .held }, ctl := t.ctl, free := t.free } ∧
        Answered 0x12 tag .ok s t ∧ Heard [.boothState b .ready .held .hold none none] s t) ∧
    (v.state = .rolling →
      ∃ t, exec (.boothHold tag [byteOf (boothNumber b)]) s = .next t ∧ LeftFor b .held s t ∧
        (t.booth b).window = [] ∧ Answered 0x12 tag .ok s t ∧ Elsewhere s t ∧
        HeardBeside v.window.length (leaveNotices b .held .hold v) s t ∧
        (∀ last, v.lastTaken = some last → TakesAndOrdersOf (closeWindow b last none s) t) ∧
        ∀ c, c ≠ b → t.booth c = s.booth c) ∧
    (v.state ≠ .held →
      exec (.boothRelease tag [byteOf (boothNumber b)]) s = .next (replied 0x13 tag (.refused .wrongState) s)) ∧
    (v.state = .held →
      ∃ t, exec (.boothRelease tag [byteOf (boothNumber b)]) s = .next t ∧
        t = { s with booths := s.booths.set b { v with state := .ready }, ctl := t.ctl, free := t.free } ∧
        Answered 0x13 tag .ok s t ∧ Heard [.boothState b .held .ready .release none none] s t)

/-- What an announcement does to a booth by its state: no action in EMPTY, HELD and DONE; a READY booth places its cursor
at a LOCKED advance and rolls when the cursor is not at end and the position lies below the reach end; a ROLLING or STOPPING
booth has the events due there, its admissions, the report of named frames reached and the run-out check as its work, piece
by piece; a roll break closes the window against the break's position, and the booth leaves for READY or DONE. Through exec:
at a continuing word in LOCKED every booth's last taken position becomes that of the advance, the work of the one booth that
may act is done, and every line is offered a frame built behind its booth; so it is at a word that breaks the roll, beside its
CHASE notice (R25, R26, R31, R32, R33, R69, R70, R71, R72, R75, R93, R154, R170), whose place among the posted frames is the
model's (entry 3). That a booth which takes no action notes the position is the model's
choice (entry 20), as is the bound on the pieces of work (entry 32). -/
def Obligations.BoothTakesAnAnnouncementByItsState : Prop :=
  (∀ (b : BoothId) (p last : Nat) (locked : Bool) (v : Booth) (work : List Task) (s : State), v = s.booth b →
    work = (dueEvents p v.window).map (fun x => Task.event p locked x.1 x.2) ++
      [.admission p locked, .report p, .runOut p] →
    (v.state ∈ [BoothState.empty, .held, .done] ∨ (v.state = .ready ∧ locked = false) →
      boothAdvance b p locked s = ([], { s with booths := s.booths.set b { v with lastTaken := some p } })) ∧
    (v.state = .rolling ∨ v.state = .stopping →
      boothAdvance b p locked s = (work, { s with booths := s.booths.set b { v with lastTaken := some p } })) ∧
    (v.state ∈ [BoothState.empty, .ready, .held, .done] → boothBreak b last s = []) ∧
    (∀ ctx, v.state = .ready → locked = true → v.active = some ctx →
      (∀ e ∈ ctx.entries, entryKey b ctx.mode e.cue s ≠ none) →
      ∃ cursor given t, boothAdvance b p locked s = (given, t) ∧
        (cursor = none → ∀ e ∈ ctx.entries, ∀ key, entryKey b ctx.mode e.cue s = some key → key < (p : Int)) ∧
        (∀ n, cursor = some n → ∃ earlier e later, ctx.entries = earlier ++ e :: later ∧ earlier.length + 1 = n ∧
          (∀ key, entryKey b ctx.mode e.cue s = some key → (p : Int) ≤ key) ∧
          ∀ x ∈ earlier, ∀ key, entryKey b ctx.mode x.cue s = some key → key < (p : Int)) ∧
        (t.booth b).active = some { ctx with cursor := cursor } ∧ (t.booth b).lastTaken = some p ∧
        (cursor ≠ none → (p : Int) < ctx.reachEnd → (t.booth b).state = .rolling ∧ given = work ∧
          t.posted = s.posted ++ [⟨.booth b, noticeFrame (.boothState b .ready .rolling .roll none none)⟩]) ∧
        (cursor = none ∨ ctx.reachEnd ≤ (p : Int) → (t.booth b).state = .ready ∧ given = [] ∧ t.posted = s.posted)) ∧
    (∀ ctx, v.state = .rolling → v.active = some ctx →
      (ctx.reachEnd ≤ (p : Int) → v.window = [] → ctx.entries ≠ [] → LeftFor b .ready s (runOut b p s)) ∧
      ((p : Int) < ctx.reachEnd ∨ v.window ≠ [] ∨ ctx.entries = [] → runOut b p s = s)) ∧
    (v.state = .rolling ∨ v.state = .stopping → v.window.length ≤ 2 →
      ((finishWork b workBound [.takeBreak last] s).booth b).window = [] ∧
      LeftFor b (if v.state = .rolling then .ready else .done) s (finishWork b workBound [.takeBreak last] s) ∧
      ((v.window.map (·.cueId)).Nodup →
        finishWork b workBound [.takeBreak last] s =
          leaveTo b (if v.state = .rolling then .ready else .done) .broken (closeWindow b last none s)))) ∧
  (∀ (b : BoothId) (p n : Nat) (locked : Bool) (t : Task) (rest : List Task) (reached : Order → Order) (s : State),
    (∀ o, reached o =
      if o.body.named = some p ∧ ((s.booth b).window.any fun e => e.owns b o) = true then { o with reached := true }
      else o) →
    finishWork b n [] s = s ∧
    finishWork b (n + 1) (t :: rest) s = finishWork b n ((runTask b t s).1 ++ rest) (runTask b t s).2 ∧
    (∀ cue k,
      (∀ e ∈ (s.booth b).window, e.cueId = cue →
        ∀ x ∈ e.events, ¬ (x.kind = k ∧ x.state = .pending ∧ x.actAt = (p : Int))) →
      runTask b (.event p locked cue k) s = ([], s)) ∧
    (∀ earlier e later k, (s.booth b).window = earlier ++ e :: later → (∀ x ∈ earlier, x.cueId ≠ e.cueId) →
      (∃ x ∈ e.events, x.kind = k ∧ x.state = .pending ∧ x.actAt = (p : Int)) →
      runTask b (.event p locked e.cueId k) s = ([], eventTaken b e k p locked s)) ∧
    runTask b (.admission p locked) s = consider b p locked s ∧ runTask b (.runOut p) s = ([], runOut b p s) ∧
    runTask b (.report p) s =
      ([], { s with link := { s.link with
        stopLane := s.link.stopLane.map reached
        startLane := s.link.startLane.map reached
        awaiting := s.link.awaiting.map fun a =>
          { a with
            order := reached a.order
            timer := if a.stage = .running ∧ a.sendEnded = true ∧ (reached a.order).reached = true ∧
                a.timer = .stopped then .running (2 * 8) s.stage.rate else a.timer } } })) ∧
  (∀ (bytes : List Byte) (p : Nat) (c : Chase) (s : State), ValidWord s.stage.rate bytes .play p → ChaseSound s →
    Settled s → s.chase.state = .locked → continuesFrom s.stage.rate s.chase.lastPos p = true →
    c = { s.chase with
      lastPos := some p, lastAdvanced := some p, badRun := false, absence := .running 3 s.stage.rate } →
    (∃ t, exec (.positionWord bytes) s = .next t ∧ t.chase = c ∧ ∀ b, (t.booth b).lastTaken = some p) ∧
    ((∀ b, (s.booth b).state ∈ [BoothState.empty, .held, .done]) →
      ∃ t, exec (.positionWord bytes) s = .next t ∧ t = { s with chase := c, booths := t.booths, lines := t.lines } ∧
        ∀ b, t.booth b = { s.booth b with lastTaken := some p } ∧
          LineOffered b (frameContent b (some p) { s with chase := c }) s t) ∧
    ∀ b, (s.booth b).state ∈ [BoothState.ready, .rolling, .stopping] →
      (∀ d, d ≠ b → (s.booth d).state ∈ [BoothState.empty, .held, .done] ∧ (s.booth d).window = []) →
      s.link.flow = .hold ∨ s.link.transmitter ≠ none →
      ∃ u w t, exec (.positionWord bytes) s = .next t ∧ u = { s with chase := c, booths := u.booths, lines := u.lines } ∧
        u.booth b = s.booth b ∧ u.lines.get b = s.lines.get b ∧
        w = finishWork b workBound [.takeAdvance p true, .frame (some p)] u ∧
        t.booth b = w.booth b ∧ t.lines.get b = w.lines.get b ∧ t.cues = w.cues ∧ TakesAndOrdersOf w t ∧
        PostsHeard w t ∧
        ∀ d, d ≠ b → t.booth d = { s.booth d with lastTaken := some p } ∧
          LineOffered d (frameContent d (some p) { s with chase := c }) s t) ∧
  ∀ (bytes : List Byte) (m : Motion) (cause : BreakCause) (p last : Nat) (b : BoothId) (v : Booth) (s : State),
    ValidWord s.stage.rate bytes m p → ChaseSound s → Settled s → s.chase.state = .locked →
    (cause = match m with
      | .play => .relocate
      | .park => .park
      | .wind => .wind) →
    ¬ (m = .play ∧ continuesFrom s.stage.rate s.chase.lastPos p = true) → s.chase.lastAdvanced = some last →
    v = s.booth b → v.state = .rolling ∨ v.state = .stopping → v.window.length ≤ 2 →
    (v.window.map (·.cueId)).Nodup →
    (∀ d, d ≠ b → (s.booth d).state ∈ [BoothState.empty, .ready, .held, .done]) →
    s.link.flow = .hold ∨ s.link.transmitter ≠ none →
    ∃ u w t, exec (.positionWord bytes) s = .next t ∧
      u = { s with
        chase := t.chase, lines := u.lines
        posted := [⟨.chase, noticeFrame (.chase .locked t.chase.state (some p) (some cause))⟩] } ∧
      w = leaveTo b (if v.state = .rolling then .ready else .done) .broken (closeWindow b last none u) ∧
      t.booths = w.booths ∧ t.cues = w.cues ∧ TakesAndOrdersOf w t ∧ PostsHeard w t ∧
      ∀ d, LineOffered d (frameContent d (some p) w) s t

/-! ## Cue window, takes and tracks -/

/-- The events of an entry by mode are those of the table of R90, each with its due and act-at, in the order of
act-ats; END has the greatest due, and there are at most 19. The key act-at and the end act-at by mode are those of
R61, for a held cue by its snapshot as an admission would take it, and in REVIEW by the take it would play. The events
due at a position are taken by class, CLOSE, PUNCH-OUT, gates off, gates on, PUNCH-IN and PLAY, OPEN, END, and within
a class the front entry's first (R61, R90, R91, R93). -/
def Obligations.WindowEventsOfAnEntry : Prop :=
  (∀ (mode : Mode) (v : Snapshot) (played : Option Played) (e : WinEvent),
    (e ∈ eventsOf mode v played ↔ e.state = .pending ∧
      ((0 < v.streamer ∧
          ((e.kind = .streamerOn ∧ e.due = (v.inPos : Int) - v.streamer ∧ e.actAt = e.due - v.delay) ∨
           (e.kind = .streamerOff ∧ e.due = v.inPos ∧ e.actAt = e.due - v.delay))) ∨
       (mode ≠ .review ∧ ∃ k, 1 ≤ k ∧ k ≤ v.beep.count ∧ e.actAt = e.due - v.delay ∧
          ((e.kind = .beepOn k ∧ e.due = (v.inPos : Int) - ((v.beep.count : Int) - k + 1) * v.beep.spacing) ∨
           (e.kind = .beepOff k ∧
            e.due = (v.inPos : Int) - ((v.beep.count : Int) - k + 1) * v.beep.spacing + v.beep.length))) ∨
       (mode ≠ .review ∧ ((v.guide = .lead ∧ 0 < v.streamer) ∨ v.guide = .full) ∧ e.actAt = e.due - v.delay ∧
          ((e.kind = .guideOn ∧ e.due = (v.inPos : Int) - v.streamer) ∨
           (e.kind = .guideOff ∧ e.due = (if v.guide = .lead then v.inPos else v.outPos)))) ∨
       (mode = .record ∧
          ((e.kind = .lampOn ∧ e.due = v.inPos ∧ e.actAt = e.due - v.delay) ∨
           (e.kind = .lampOff ∧ e.due = v.outPos ∧ e.actAt = e.due - v.delay) ∨
           (e.kind = .punchIn ∧ e.due = (v.inPos : Int) - v.pre ∧ e.actAt = e.due - v.latency) ∨
           (e.kind = .opening ∧ e.due = (v.inPos : Int) - v.pre ∧ e.actAt = e.due) ∨
           (e.kind = .punchOut ∧ e.due = (v.outPos : Int) + v.post ∧ e.actAt = e.due - v.latency) ∨
           (e.kind = .closing ∧ e.due = (v.outPos : Int) + v.post ∧ e.actAt = e.due))) ∨
       (mode = .review ∧ e.kind = .play ∧ e.due = playStart v played ∧ e.actAt = e.due - v.latency) ∨
       (e.kind = .ending ∧ e.due = endDue mode v played ∧ e.actAt = e.due))) ∧
    (eventsOf mode v played).Pairwise (fun a b => a.actAt ≤ b.actAt) ∧
    (v.beep.count ≤ 4 → (eventsOf mode v played).length ≤ 19) ∧
    (v.beep.length ≤ v.beep.spacing → v.inPos < v.outPos → e ∈ eventsOf mode v played →
      e.due ≤ endDue mode v played)) ∧
  (∀ (v : Snapshot) (played : Option Played),
    playStart v none = (v.inPos : Int) - v.pre ∧ (∀ t, playStart v (some t) = t.start) ∧
    endDue .record v played = (v.outPos : Int) + v.post ∧ endDue .rehearse v played = v.outPos ∧
    (0 < v.streamer → v.inPos < playStart v played → endDue .review v played = playStart v played) ∧
    (0 < v.streamer → playStart v played ≤ v.inPos → endDue .review v played = v.inPos) ∧
    (v.streamer = 0 → endDue .review v played = playStart v played) ∧
    keyActAt .record v played = (v.inPos : Int) - v.pre - v.latency ∧
    keyActAt .rehearse v played = (v.inPos : Int) - v.delay ∧
    keyActAt .review v played = playStart v played - v.latency) ∧
  (∀ (b : BoothId) (mode : Mode) (q : Cue) (snap : Snapshot) (played : Option Played) (s : State), SerialsSound s →
    CueTableSound s → SnapshotIs b mode q s snap → (mode = .review → PlaysFor q.fields.id s played) →
    (mode ≠ .review → played = none) →
    cueEnd b mode q s = endDue mode snap played ∧
    (q ∈ s.cues → entryKey b mode q.fields.id s = some (keyActAt mode snap played)) ∧
    ∀ id, (∀ x ∈ s.cues, x.fields.id ≠ id) → entryKey b mode id s = none) ∧
  (∀ (p : Nat) (window : List LiveEntry),
    (dueEvents p window).Pairwise (fun x y => x.2.cls ≤ y.2.cls) ∧
    ∀ c, (dueEvents p window).filter (fun x => decide (x.2.cls = c)) =
      window.flatMap fun e =>
        (e.events.filter fun x => decide (x.state = .pending ∧ x.actAt = (p : Int) ∧ x.kind.cls = c)).map
          fun x => (e.cueId, x.kind)) ∧
  EventKind.closing.cls = 0 ∧ EventKind.punchOut.cls = 1 ∧
  (∀ k, k ∈ [EventKind.streamerOff, .guideOff, .lampOff] ∨ (∃ n, k = .beepOff n) → k.cls = 2) ∧
  (∀ k, k ∈ [EventKind.streamerOn, .guideOn, .lampOn] ∨ (∃ n, k = .beepOn n) → k.cls = 3) ∧
  EventKind.punchIn.cls = 4 ∧ EventKind.play.cls = 4 ∧ EventKind.opening.cls = 5 ∧ EventKind.ending.cls = 6

/-- A claim takes the first free track of its set: the span is placed, the PLANNED record appended with the counter's
serial and the cue's next take, and the counters rise. Exhausted takes, a full pool and an exhausted counter fail it. With
no track of the set free, the candidate of lowest take number is OVERWRITTEN, its span released and its notice posted, and
its track taken when that frees the wanted span; else the claim fails (R54, R97, R116, R117, R118, R121, R127, R128, R130,
R131, R139). The entry at the cursor is stepped over with NO_TAKE, LATE or CLASH, waits, or is admitted, in RECORD with its
claim; with both places held it is stepped over with CROWDED or stays. A step-over posts its CUE notice and moves the cursor
on; an admitted entry holds the snapshot, its PASSED events and the gates they leave (R41, R89, R94, R95, R96, R97, R98,
R99). -/
def Obligations.ClaimsReclaimsAndAdmissions : Prop :=
  (∀ (c : Claim) (n : Nat) (s : State),
      (n = 100 → takeClaim c n s = (.failed .takesExhausted, s)) ∧
      (n ≠ 100 → 1024 ≤ s.spans.length ∨ 4294967295 < s.log.counter →
        takeClaim c n s = (.failed .spanPoolFull, s)) ∧
      (∀ earlier track later, n ≠ 100 → s.spans.length < 1024 → s.log.counter ≤ 4294967295 →
        c.tracks = earlier ++ track :: later →
        (∀ x ∈ s.spans, x.track = track → x.stop ≤ c.start ∨ c.stop ≤ x.start) →
        (∀ k ∈ earlier, ∃ x ∈ s.spans, x.track = k ∧ x.start < c.stop ∧ c.start < x.stop) →
        ∃ t, takeClaim c n s = (.made ⟨s.log.counter, n⟩, t) ∧ Creates c track n s t)) ∧
  (∀ (c : Claim) (n : Nat) (s : State), SerialsSound s → n ≠ 100 → s.spans.length < 1024 → s.log.counter ≤ 4294967295 →
      (∀ k ∈ c.tracks, ∃ x ∈ s.spans, x.track = k ∧ x.start < c.stop ∧ c.start < x.stop) →
      ((∀ t ∈ s.log.records, ¬ Reclaimable c s t) → takeClaim c n s = (.failed .noTrack, s)) ∧
      ∀ t ∈ s.log.records, Reclaimable c s t →
        (∀ x ∈ s.log.records, Reclaimable c s x → x = t ∨ t.number < x.number) →
        ∃ lost freed, lost = { t with state := .overwritten, spanEnd := none, reason := none, closing := none } ∧
          freed = { s with
            log := { s.log with records := s.log.records.map fun x => if x.serial = t.serial then lost else x }
            spans := s.spans.filter fun x => decide (x.serial ≠ t.serial)
            posted := s.posted ++ [⟨.takeLog, noticeFrame (.take .state lost)⟩] } ∧
          ((∀ x ∈ freed.spans, x.track = t.track → x.stop ≤ c.start ∨ c.stop ≤ x.start) →
            ∃ u, takeClaim c n s = (.made ⟨s.log.counter, n⟩, u) ∧ Creates c t.track n freed u) ∧
          ((∃ x ∈ freed.spans, x.track = t.track ∧ x.start < c.stop ∧ c.start < x.stop) →
            takeClaim c n s = (.failed .noTrack, freed))) ∧
  (∀ (b : BoothId) (p : Nat) (locked : Bool) (s : State),
      (s.booth b).state ≠ .rolling ∨ (s.booth b).active = none ∨
          (∃ ctx, (s.booth b).active = some ctx ∧ ctx.cursor = none) →
        consider b p locked s = ([], s)) ∧
  ∀ (b : BoothId) (p : Nat) (locked : Bool) (v : Booth) (ctx : Context) (earlier later : List Entry) (entry : Entry)
      (q : Cue) (snap : Snapshot) (played : Option Played) (next : Option Nat) (stepped : StepReason → State → State)
      (live : Option HeldTake → LiveEntry) (s : State),
    SerialsSound s → CueTableSound s → v = s.booth b → v.state = .rolling → v.active = some ctx →
    ctx.entries = earlier ++ entry :: later → ctx.cursor = some (earlier.length + 1) → q ∈ s.cues →
    q.fields.id = entry.cue →
    SnapshotIs b ctx.mode q s snap →
    (ctx.mode = .review → PlaysFor entry.cue s played) → (ctx.mode ≠ .review → played = none) →
    next = (if later = [] then none else some (earlier.length + 2)) →
    (∀ r u, stepped r u =
      { u with
        booths := u.booths.set b { u.booth b with active := some { ctx with cursor := next } }
        posted := u.posted ++ [⟨.booth b, noticeFrame (.cue b entry.cue r p)⟩] }) →
    (∀ take, (live take).cueId = entry.cue ∧ (live take).snap = snap ∧ (live take).take = take ∧
      (live take).played = played ∧ (live take).startTag = none ∧ (live take).stopTag = none ∧
      (live take).events =
        ((eventsOf ctx.mode snap played).map fun x => if x.actAt < (p : Int) then { x with state := .passed } else x) ∧
      ∀ g, (live take).gates.on g = true ↔ (g = .lamp → ctx.mode = .record) ∧
        ∃ before x after, eventsOf ctx.mode snap played = before ++ x :: after ∧ x.actAt < (p : Int) ∧
          x.kind.gate = some (g, true) ∧ ∀ y ∈ after, y.actAt < (p : Int) → y.kind.gate ≠ some (g, false)) →
    (2 ≤ v.window.length →
      (keyActAt ctx.mode snap played < (p : Int) →
        consider b p locked s = ([.admission p locked], stepped .crowded s)) ∧
      ((p : Int) ≤ keyActAt ctx.mode snap played → consider b p locked s = ([], s))) ∧
    (v.window.length < 2 → ctx.mode = .review → played = none →
      consider b p locked s = ([.admission p locked], stepped .noTake s)) ∧
    (v.window.length < 2 → (ctx.mode = .review → played ≠ none) →
      (keyActAt ctx.mode snap played < (p : Int) →
        consider b p locked s = ([.admission p locked], stepped .late s)) ∧
      ((p : Int) ≤ keyActAt ctx.mode snap played → ctx.mode = .record →
        (∃ e ∈ v.window, (snap.inPos : Int) - snap.pre < (e.snap.outPos : Int) + e.snap.post) →
        consider b p locked s = ([.admission p locked], stepped .clash s)) ∧
      ((p : Int) ≤ keyActAt ctx.mode snap played →
        (ctx.mode = .record → ∀ e ∈ v.window, (e.snap.outPos : Int) + e.snap.post ≤ (snap.inPos : Int) - snap.pre) →
        ((∀ x ∈ eventsOf ctx.mode snap played, (p : Int) < x.actAt) → consider b p locked s = ([], s)) ∧
        ((∃ x ∈ eventsOf ctx.mode snap played, x.actAt ≤ (p : Int)) →
          ∃ place : LiveEntry → Booth → Booth,
            (∀ e w, place e w = { w with
              window := (match w.window with
                | [] => [e]
                | f :: rest => if e.snap.inPos < f.snap.inPos then e :: f :: rest else f :: e :: rest)
              active := w.active.map fun x =>
                { x with
                  entries := x.entries.map fun y => if y.cue = entry.cue then { y with live := true } else y
                  cursor := next } }) ∧
            (ctx.mode ≠ .record →
              consider b p locked s =
                ((dueEvents p [live none]).map (fun x => Task.event p locked x.1 x.2) ++ [.admission p locked],
                  { s with booths := s.booths.set b (place (live none) v) })) ∧
            (ctx.mode = .record →
              ∀ result u,
                takeClaim ⟨b, entry.cue, snap.inPos - snap.pre, snap.outPos + snap.post, snap.tracks⟩ q.nextTake s =
                  (result, u) →
                (∀ r, result = .failed r → consider b p locked s = ([.admission p locked], stepped r u)) ∧
                ∀ take, result = .made take →
                  consider b p locked s =
                    ((dueEvents p [live (some take)]).map (fun x => Task.event p locked x.1 x.2) ++
                        [.admission p locked],
                      { u with booths := u.booths.set b (place (live (some take)) (u.booth b)) })))))

/-- At either kind of advance, unless said: PUNCH-IN of a PLANNED take fails it with FREEWHEEL at a FREEWHEEL advance, and
at a LOCKED one raises the order, or fails it with QUEUE_FULL when the lane refuses; OPEN opens a PLANNED take, and
PUNCH-OUT of an OPEN take, or of a PLANNED one whose PUNCH-IN is sent, raises the stop; both fail a PLANNED take with
LATE_IN while its PUNCH-IN waits, the PUNCH-IN withdrawn; a take that fails so leaves its entry LIVE with the lamp off. CLOSE
makes an OPEN take KEPT and counts it; at the take limit the rest of the window is closed and the booth enters DONE, and in
STOPPING it enters DONE. In the other states of the take the event is VOID. PLAY raises its order. END frees the place and
removes the entry under ONCE, in RECORD only when its take was KEPT, where R57 names a removal in the other case too (entry 39,
the model's choice), and a pass left empty is complete (R60, R76, R77, R78, R80, R100, R101, R102, R103, R104, R105,
R106, R130, R139, R147, R148, R150). -/
def Obligations.TakeEventsMoveTheTake : Prop :=
  (∀ (b : BoothId) (e : LiveEntry) (held : HeldTake) (t : Take) (p : Nat) (locked : Bool) (s : State), SerialsSound s →
    e.take = some held → t ∈ s.log.records → t.serial = held.serial →
    (t.state = .planned →
      TakeFails t .freewheel [] s (eventTaken b e .punchIn p false s) ∧
      (eventTaken b e .punchIn p false s).link = s.link ∧
      (eventTaken b e .punchIn p false s).booths = entryChanged b e.cueId (bereft .punchIn) s) ∧
    (t.state = .planned → s.link.startLane.length < 4 →
      eventTaken b e .punchIn p true s =
        { s with
          booths := entryChanged b e.cueId
            (fun x => { marked .punchIn .taken x with startTag := some (nextTag s.link) }) s
          link := { s.link with
            startLane := s.link.startLane ++
              [⟨.punchIn t.track t.plannedStart, nextTag s.link, some b, some held.serial, none, some p, false⟩]
            tagCounter := nextTag s.link + 1 } }) ∧
    (t.state = .planned → 4 ≤ s.link.startLane.length →
      (∀ o ∈ s.link.startLane, o.raisedAt = some p → o.rank s ≤ rankOf b s) →
      TakeFails t .queueFull [⟨.booth b, noticeFrame (.cue b e.cueId .queueFull p)⟩] s
          (eventTaken b e .punchIn p true s) ∧
        ∃ u, LeavesWindow b e { s with booths := entryChanged b e.cueId (marked .punchIn .taken) s } u ∧
          (eventTaken b e .punchIn p true s).booths = u.booths ∧ (eventTaken b e .punchIn p true s).link = u.link) ∧
    (∀ k, k ∈ [EventKind.opening, .punchOut] → t.state = .planned → punchInWaits held.serial s = true →
      TakeFails t .lateIn [] s (eventTaken b e k p locked s) ∧
      (eventTaken b e k p locked s).link =
        { s.link with startLane := s.link.startLane.filter fun o => !o.isPunchInOf held.serial } ∧
      (eventTaken b e k p locked s).booths = entryChanged b e.cueId (bereft k) s) ∧
    (t.state = .planned → punchInWaits held.serial s = false →
      eventTaken b e .opening p locked s =
        { s with
          booths := entryChanged b e.cueId (marked .opening .taken) s
          log := { s.log with records := s.log.records.map fun x =>
            if x.serial = held.serial then { t with state := .opened } else x } }) ∧
    (t.state = .opened ∨ (t.state = .planned ∧ punchInWaits held.serial s = false) →
      eventTaken b e .punchOut p locked s =
        { s with
          booths := entryChanged b e.cueId
            (fun x => { marked .punchOut .taken x with stopTag := some (nextTag s.link) }) s
          link := { s.link with
            stopLane := s.link.stopLane ++
              [⟨.punchOut t.track t.plannedEnd, nextTag s.link, some b, some held.serial, none, some p, false⟩]
            tagCounter := nextTag s.link + 1 } }) ∧
    (∀ k, (k ∈ [EventKind.punchIn, .opening] ∧ t.state ≠ .planned) ∨
        (k = .punchOut ∧ t.state ≠ .planned ∧ t.state ≠ .opened) ∨ (k = .closing ∧ t.state ≠ .opened) →
      eventTaken b e k p locked s = { s with booths := entryChanged b e.cueId (marked k .void) s }) ∧
    ∀ kept w, kept = { t with state := .kept } →
      w = { s with
        booths := s.booths.set b
          { (entryChanged b e.cueId (marked .closing .taken) s).get b with
            active := (s.booth b).active.map fun ctx => { ctx with kept := min 99 (ctx.kept + 1) } }
        log := { s.log with records := s.log.records.map fun x => if x.serial = held.serial then kept else x }
        posted := s.posted ++ [⟨.takeLog, noticeFrame (.take .state kept)⟩] } →
      t.state = .opened → (∀ ctx, (s.booth b).active = some ctx → ctx.kept ≤ 99) →
      (∀ ctx, (s.booth b).state = .rolling → (s.booth b).active = some ctx →
        (ctx.limit = 0 ∨ min 99 (ctx.kept + 1) ≠ ctx.limit → eventTaken b e .closing p locked s = w) ∧
        (ctx.limit ≠ 0 → min 99 (ctx.kept + 1) = ctx.limit →
          eventTaken b e .closing p locked s = leaveTo b .done .limit (closeWindow b p (some p) (endEntry b e w)))) ∧
      ((s.booth b).state = .stopping →
        eventTaken b e .closing p locked s = leaveTo b .done .takeClosed (endEntry b e w))) ∧
  ∀ (b : BoothId) (e : LiveEntry) (p : Nat) (locked : Bool) (s : State),
    (∀ x, e.played = some x → s.link.startLane.length < 4 →
      eventTaken b e .play p locked s =
        { s with
          booths := entryChanged b e.cueId (fun y => { marked .play .taken y with startTag := some (nextTag s.link) }) s
          link := { s.link with
            startLane := s.link.startLane ++
              [⟨.play x.track x.start x.stop, nextTag s.link, some b, e.take.map (·.serial), some e.cueId, some p, false⟩]
            tagCounter := nextTag s.link + 1 } }) ∧
    (∀ x, e.played = some x → e.take = none → 4 ≤ s.link.startLane.length →
      (∀ o ∈ s.link.startLane, o.raisedAt = some p → o.rank s ≤ rankOf b s) →
      ∃ u, LeavesWindow b e { s with booths := entryChanged b e.cueId (marked .play .taken) s } u ∧
        eventTaken b e .play p locked s = postNotice (.booth b) (.cue b e.cueId .queueFull p) u) ∧
    ∀ ctx unplayed left, (s.booth b).active = some ctx →
      unplayed = (if e.played = none then s
        else { s with link := { s.link with
          startLane := s.link.startLane.filter fun o => !o.isPlayOf b e.cueId } }) →
      LeavesWindow b e unplayed left →
      (ctx.policy = .repeated ∨ (ctx.mode = .record ∧ entryTakeState e s ≠ some .kept) →
        endEntry b e s = left ∧ (ctx.entries ≠ [] → eventTaken b e .ending p locked s = left)) ∧
      ∀ earlier entry later, ctx.policy = .once → (ctx.mode = .record → entryTakeState e s = some .kept) →
        ctx.entries = earlier ++ entry :: later → entry.cue = e.cueId →
        (∀ x ∈ earlier ++ later, x.cue ≠ e.cueId) →
        endEntry b e s =
          { left with
            cues := s.cues.map fun q => if q.fields.id = e.cueId then q.clearActive b else q
            booths := s.booths.set b
              { left.booth b with
                active := some
                  { ctx with
                    entries := earlier ++ later
                    cursor := match ctx.cursor with
                      | none => none
                      | some i =>
                        if earlier.length + 1 < i then some (i - 1)
                        else if i = earlier.length + 1 ∧ later = [] then none
                        else some i } } } ∧
        (earlier ++ later ≠ [] ∨ (s.booth b).state ≠ .rolling →
          eventTaken b e .ending p locked s = endEntry b e s) ∧
        (earlier ++ later = [] → (s.booth b).state = .rolling →
          eventTaken b e .ending p locked s = leaveTo b .done .complete (endEntry b e s))

/-- A closing deals with the take of an entry: OPEN gives TRUNCATED at min(planned end, c + 1) with PUNCH-OUT NOW
raised; PLANNED gives FAILED with BROKEN while its PUNCH-IN is not sent, and WITHDRAWING with a CANCEL once it is; a
TRUNCATED or FAILED take posts a TAKE notice STATE; its PUNCH-OUT leaves the stop lane. Its PLAY is withdrawn while it
waits and cancelled once sent; that it is cancelled when it has been answered or has expired too is entry 27, the
model's. The entry then leaves the window and is WAITING. A closing takes the front entry through every step first and
the back entry second; PASS-STOP with a take OPEN closes the other entry alone, against the last taken position (R79,
R108, R109, R122, R139, R147, R150, R154). -/
def Obligations.ClosingDealsWithTheTake : Prop :=
  (∀ (b : BoothId) (e : LiveEntry) (held : HeldTake) (t : Take) (c stop : Nat) (raisedAt : Option Nat)
    (left : List Order) (s u : State), SerialsSound s → e.take = some held → t ∈ s.log.records →
    t.serial = held.serial → u = closeTakeOf b e c raisedAt s →
    left = s.link.stopLane.filter (fun o => !o.isPunchOutOf held.serial) → stop = min t.plannedEnd (c + 1) →
    (t.state = .opened → t.plannedStart < stop →
      u.log.records = s.log.records.map (fun x => if x.serial = held.serial then
        { t with state := .truncated, spanEnd := t.spanEnd.map (fun n => min n stop), closing := none } else x) ∧
      u.spans = s.spans.map (fun x => if x.serial = held.serial then { x with stop := min x.stop stop } else x) ∧
      u.link.stopLane = left ++
        [⟨.punchOutNow t.track, nextTag { s.link with stopLane := left }, some b, some held.serial, none, raisedAt,
          true⟩] ∧ u.link.startLane = s.link.startLane ∧
      u.posted = s.posted ++ [⟨.takeLog, noticeFrame (.take .state
        { t with state := .truncated, spanEnd := t.spanEnd.map (fun n => min n stop), closing := none })⟩]) ∧
    (t.state = .planned → punchInWaits held.serial s = true ∨ e.startTag = none →
      u.log.records = s.log.records.map (fun x => if x.serial = held.serial then
        { t with state := .failed, reason := some .broken, spanEnd := none, closing := none } else x) ∧
      u.spans = s.spans.filter (fun x => decide (x.serial ≠ held.serial)) ∧ u.link.stopLane = left ∧
      punchInWaits held.serial u = false ∧
      u.posted = s.posted ++ [⟨.takeLog, noticeFrame (.take .state
        { t with state := .failed, reason := some .broken, spanEnd := none, closing := none })⟩]) ∧
    (∀ tag, t.state = .planned → punchInWaits held.serial s = false → e.startTag = some tag →
      u.log.records = s.log.records.map (fun x => if x.serial = held.serial then
        { t with state := .withdrawing, closing := some c } else x) ∧
      u.spans = s.spans ∧ u.posted = s.posted ∧
      u.link.stopLane = left ++
        [⟨.cancel tag, nextTag { s.link with stopLane := left }, some b, some held.serial, none, raisedAt, true⟩]) ∧
    (t.state ∉ [TakeState.planned, .opened] → u = { s with link := { s.link with stopLane := left } })) ∧
  (∀ (b : BoothId) (e : LiveEntry) (c : Nat) (raisedAt : Option Nat) (s : State),
    (e.take = none → closeTakeOf b e c raisedAt s = s) ∧
    (e.played = none ∨ e.startTag = none → closePlayOf b e raisedAt s = s) ∧
    (∀ tag, e.played ≠ none → e.startTag = some tag →
      ((∃ o ∈ s.link.startLane, o.body.kind = .play ∧ o.booth = some b ∧ o.cue = some e.cueId) →
        closePlayOf b e raisedAt s =
          { s with link := { s.link with
            startLane := s.link.startLane.filter fun o =>
              decide (¬ (o.body.kind = .play ∧ o.booth = some b ∧ o.cue = some e.cueId)) } }) ∧
      ((∀ o ∈ s.link.startLane, ¬ (o.body.kind = .play ∧ o.booth = some b ∧ o.cue = some e.cueId)) →
        closePlayOf b e raisedAt s =
          { s with link := { s.link with
            stopLane := s.link.stopLane ++
              [⟨.cancel tag, nextTag s.link, some b, none, some e.cueId, raisedAt, true⟩]
            tagCounter := nextTag s.link + 1 } })) ∧
    LeavesWindow b e (closePlayOf b e raisedAt (closeTakeOf b e c raisedAt s)) (closeEntry b c raisedAt e s)) ∧
  ∀ (b : BoothId) (c : Nat) (raisedAt : Option Nat) (s : State),
    ((s.booth b).window = [] → closeWindow b c raisedAt s = s) ∧
    (∀ e, (s.booth b).window = [e] → closeWindow b c raisedAt s = closeEntry b c raisedAt e s) ∧
    ∀ front back, (s.booth b).window = [front, back] →
      closeWindow b c raisedAt s = closeEntry b c raisedAt back (closeEntry b c raisedAt front s) ∧
      (front.cueId ≠ back.cueId → (s.booth b).lastTaken = some c →
        closeOthers b front s = closeEntry b c none back s ∧ closeOthers b back s = closeEntry b c none front s)

/-! ## Recorder link -/

/-- A start enters a lane with room at its end, with its tag. At a full lane it displaces the lowest-ranked start raised
at the same advance when it outranks it: that start leaves the lane and is handed back, its entry leaving the window, its
take FAILED with QUEUE_FULL and the CUE notice posted, and the newcomer enters at the end with its own tag. Otherwise the
newcomer is handed back so (R100, R105, R148). An order's tag is one that no order in a lane, no awaiting entry and no
CANCEL of the stop lane or the awaiting list holds (R145). -/
def Obligations.StartLaneAndTags : Prop :=
  (∀ (b : BoothId) (e : LiveEntry) (body : OrderBody) (p : Nat) (s : State), SerialsSound s →
      (s.link.startLane.length < 4 → EntersLane b e body p s (raiseStart b e body p s)) ∧
      (4 ≤ s.link.startLane.length →
        (∀ o ∈ s.link.startLane, o.raisedAt = some p → o.rank s ≤ rankOf b s) →
        HandedBack b e p s (raiseStart b e body p s)) ∧
      (∀ earlier o later removed, 4 ≤ s.link.startLane.length → s.link.startLane = earlier ++ o :: later →
        (s.link.startLane.map (·.tag)).Nodup → o.raisedAt = some p → rankOf b s < o.rank s →
        (∀ x ∈ earlier, x.raisedAt = some p → x.rank s ≤ o.rank s) →
        (∀ x ∈ later, x.raisedAt = some p → x.rank s < o.rank s) →
        removed = { s with link := { s.link with startLane := earlier ++ later } } →
        ∃ u, EntersLane b e body p u (raiseStart b e body p s) ∧
          ∀ d, o.booth = some d →
            (∀ before f after, (s.booth d).window = before ++ f :: after → f.owns d o = true →
              (∀ x ∈ before, x.owns d o = false) → HandedBack d f p removed u) ∧
            ((∀ x ∈ (s.booth d).window, x.owns d o = false) → u = removed))) ∧
  (∀ l : RecLink, (heldTags l).length < 65536 → nextTag l ∉ heldTags l)

/-- An answer that names no awaiting entry, a DONE outside the day and an unreadable message are stray: a STRAY notice
and no other change. A FLOW word sets the flow, with a notice when it changes it (R144, R152, R158, R162). -/
def Obligations.StrayAnswersAndFlowWords : Prop :=
  ∀ s : State, Settled s →
    (∀ (tag : Tag) (actual : Word32), s.stage.rate.perDay ≤ actual.toNat ∨ findAwaiting tag s = none →
      exec (.done tag actual) s = .next (noticed .recorder (.recStray (some tag) (some .done)) s)) ∧
    (∀ (tag : Tag) (reason : RefusedReason), findAwaiting tag s = none →
      exec (.refused tag reason) s = .next (noticed .recorder (.recStray (some tag) (some .refused)) s)) ∧
    (∀ bytes, readMessage bytes = none →
      exec (.unreadableMessage bytes) s = .next (noticed .recorder (.recStray none none) s)) ∧
    exec (.flow s.link.flow) s = .next s ∧
    ∀ f, f ≠ s.link.flow →
      exec (.flow f) s =
        .next (noticed .recorder (.recFlow f) { s with link := { s.link with flow := f } })

/-- A DONE removes its awaiting entry: to a PUNCH-IN it sets recorder in; to a PUNCH-OUT of either form it sets recorder
out to the earlier frame, with LATE_OUT when later than the order named; to a CANCEL it removes the cancelled order's
entry and makes a WITHDRAWING take FAILED with BROKEN. A frame or flag filled in on a take that is no longer live posts a
TAKE notice UPDATE when it writes something (entry 19), and the FAILED take a TAKE notice STATE; nothing else is posted
(R110, R132, R139, R156). -/
def Obligations.DoneFillsInTheTake : Prop :=
  ∀ (tag : Tag) (actual : Word32) (a : Awaiting) (s : State), Settled s → SerialsSound s →
    actual.toNat < s.stage.rate.perDay → findAwaiting tag s = some a →
    ∃ t, exec (.done tag actual) s = .next t ∧ Elsewhere s t ∧ t.booths = s.booths ∧ t.link.stopLane = s.link.stopLane ∧
      t.link.startLane = s.link.startLane ∧ (∀ x ∈ t.link.awaiting, x.order.tag ≠ tag) ∧
      (∀ target, a.order.body ≠ .cancel target →
        t.spans = s.spans ∧
        t.link.awaiting = s.link.awaiting.filter (fun x => decide (x.order.tag ≠ tag))) ∧
      (∀ track frame n, a.order.body = .punchIn track frame → a.order.take = some n →
        t.log.records = s.log.records.map fun x =>
          if x.serial = n then { x with recIn := some actual.toNat } else x) ∧
      (∀ track frame n, a.order.body = .punchOut track frame → a.order.take = some n →
        t.log.records = s.log.records.map fun x =>
          if x.serial = n then
            { x with
              recOut := some (match x.recOut with
                | none => actual.toNat
                | some f => min f actual.toNat)
              flags := { x.flags with lateOut := x.flags.lateOut || decide (frame < actual.toNat) } }
          else x) ∧
      (∀ track n, a.order.body = .punchOutNow track → a.order.take = some n →
        t.log.records = s.log.records.map fun x =>
          if x.serial = n then
            { x with recOut := some (match x.recOut with
              | none => actual.toNat
              | some f => min f actual.toNat) }
          else x) ∧
      (∀ target, a.order.body = .cancel target →
        (∀ x ∈ t.link.awaiting, x.order.tag ≠ target) ∧
        (∀ n x, a.order.take = some n → x ∈ s.log.records → x.serial = n → x.state = .withdrawing →
          t.log.records = s.log.records.map (fun y => if y.serial = n then
            { x with state := .failed, reason := some .broken, spanEnd := none, closing := none } else y) ∧
          t.spans = s.spans.filter (fun y => decide (y.serial ≠ n))) ∧
        ((∀ n x, a.order.take = some n → x ∈ s.log.records → x.serial = n → x.state ≠ .withdrawing) →
          t.log = s.log ∧ t.spans = s.spans)) ∧
      (a.order.body = .haltAll ∨ (∃ track start stop, a.order.body = .play track start stop) → t.log = s.log) ∧
      (a.order.take = none ∨ (∃ n, a.order.take = some n ∧ ∀ x ∈ s.log.records, x.serial ≠ n) → t.ctl = s.ctl) ∧
      ∀ n x, a.order.take = some n → x ∈ s.log.records → x.serial = n →
        (∀ track frame, a.order.body = .punchIn track frame →
          t.ctl = if x.state.isLive then s.ctl
            else s.ctl.placeNotice .take (noticeFrame (.take .update { x with recIn := some actual.toNat }))) ∧
        (∀ late, (∃ track frame, a.order.body = .punchOut track frame ∧ late = decide (frame < actual.toNat)) ∨
            (∃ track, a.order.body = .punchOutNow track ∧ late = false) →
          (x.state.isLive = true ∨
              ((∃ f, x.recOut = some f ∧ f ≤ actual.toNat) ∧ (late = true → x.flags.lateOut = true)) →
            t.ctl = s.ctl) ∧
          (x.state.isLive = false →
            (x.recOut = none ∨ (∃ f, x.recOut = some f ∧ actual.toNat < f)) ∨ (late = true ∧ x.flags.lateOut = false) →
            ∃ y ∈ t.log.records, y.serial = n ∧
              t.ctl = s.ctl.placeNotice .take (noticeFrame (.take .update y)))) ∧
        (∀ target, a.order.body = .cancel target →
          (x.state = .withdrawing →
            t.ctl = s.ctl.placeNotice .take (noticeFrame (.take .state
              { x with state := .failed, reason := some .broken, spanEnd := none, closing := none }))) ∧
          (x.state ≠ .withdrawing → t.ctl = s.ctl))

/-- A REFUSED removes its awaiting entry and posts a RECORDER notice, placed when the class is enabled and the queue
has room: a live take whose PUNCH-IN is refused becomes FAILED with REFUSED, its entry staying LIVE with the lamp off,
or in STOPPING leaving with the booth in DONE; a refused PUNCH-OUT flags its take UNCONFIRMED_OUT; a refused CANCEL
makes a WITHDRAWING take TRUNCATED, its span shrunk where that leaves one, and raises PUNCH-OUT NOW. A take that ends
or is truncated posts a TAKE notice STATE, a flag added to one no longer live a TAKE notice UPDATE; that a flag
already set posts none is entry 19, the model's (R80, R103, R110, R122, R132, R139, R157). -/
def Obligations.RefusedAnswersByOrderKind : Prop :=
  ∀ (tag : Tag) (reason : RefusedReason) (a : Awaiting) (s : State), Settled s → SerialsSound s →
    findAwaiting tag s = some a →
    ∃ t, exec (.refused tag reason) s = .next t ∧ Elsewhere s t ∧ (∀ x ∈ t.link.awaiting, x.order.tag ≠ tag) ∧
      (s.ctl.queue.length ≤ 8 → s.ctl.enabled.has .recorder = true →
        noticeFrame (.recRefused tag a.order.body.kind reason a.order.booth a.order.take) ∈ t.ctl.queue) ∧
      (a.order.take = none →
        t = noticed .recorder (.recRefused tag a.order.body.kind reason a.order.booth none)
          { s with link := { s.link with awaiting := s.link.awaiting.filter fun x => decide (x.order.tag ≠ tag) } }) ∧
      ∀ n x, a.order.take = some n → x ∈ s.log.records → x.serial = n →
        (∀ track frame, a.order.body = .punchIn track frame →
          (x.state.isLive = true →
            t.log.records = s.log.records.map (fun y => if y.serial = n then
              { x with state := .failed, reason := some .refused, spanEnd := none, closing := none } else y) ∧
            t.spans = s.spans.filter (fun y => decide (y.serial ≠ n)) ∧ t.link.stopLane.length = s.link.stopLane.length ∧
            (s.ctl.queue.length ≤ 8 → s.ctl.enabled.has .take = true →
              noticeFrame (.take .state
                { x with state := .failed, reason := some .refused, spanEnd := none, closing := none }) ∈ t.ctl.queue) ∧
            (holderOf x.booth n s = none → t.booths = s.booths) ∧
            ∀ e, holderOf x.booth n s = some e →
              ((s.booth x.booth).state ≠ .stopping →
                t.booths = entryChanged x.booth e.cueId
                  (fun y => { y with
                    gates := { y.gates with lamp := false }
                    events := y.events.map fun z =>
                      if z.state = .pending ∧ z.kind ∈ [EventKind.punchIn, .opening, .punchOut, .closing] then
                        { z with state := .void }
                      else z }) s) ∧
              ((s.booth x.booth).state = .stopping →
                t.booths = (leaveTo x.booth .done .takeClosed (endEntry x.booth e { s with log := t.log })).booths)) ∧
          (x.state.isLive = false → t.log = s.log ∧ t.spans = s.spans ∧ t.booths = s.booths)) ∧
        (a.order.body.kind = .punchOut ∨ a.order.body.kind = .punchOutNow →
          t.log.records = s.log.records.map (fun y => if y.serial = n then
            { y with flags := { y.flags with unconfirmedOut := true } } else y) ∧
          t.spans = s.spans ∧ t.booths = s.booths ∧ t.link.stopLane = s.link.stopLane ∧
          (x.state.isLive = true ∨ x.flags.unconfirmedOut = true →
            t.ctl = s.ctl.placeNotice .recorder
              (noticeFrame (.recRefused tag a.order.body.kind reason a.order.booth a.order.take))) ∧
          (x.state.isLive = false → x.flags.unconfirmedOut = false → s.ctl.queue.length ≤ 8 →
            s.ctl.enabled.has .take = true →
            noticeFrame (.take .update { x with flags := { x.flags with unconfirmedOut := true } }) ∈ t.ctl.queue)) ∧
        (∀ target, a.order.body = .cancel target → x.state = .withdrawing →
          takeStateOf n t = some .truncated ∧
          (s.ctl.queue.length ≤ 8 → s.ctl.enabled.has .take = true →
            ∃ y ∈ t.log.records, y.serial = n ∧ noticeFrame (.take .state y) ∈ t.ctl.queue) ∧
          (∀ c, x.closing = some c → TruncatedLate x c s t) ∧
          ∃ raised, t.link.stopLane = s.link.stopLane ++ [raised] ∧ raised.body = .punchOutNow x.track ∧
            raised.booth = some x.booth ∧ raised.take = some n) ∧
        (∀ target, a.order.body = .cancel target → x.state ≠ .withdrawing →
          t.log = s.log ∧ t.spans = s.spans ∧ t.link.stopLane = s.link.stopLane)

/-- With the transmitter idle, the flow READY and a place in the awaiting list or an expired entry, the link sends the
first stop, or with no stop the first start while fewer than 8 starts are outstanding; otherwise it sends nothing. A sent
start joins the outstanding starts under its take, or as a PLAY under its live entry's cue (with its tag, entry 16). The
end of a transmission leaves the transmitter idle and starts the expiry timer of an order whose named frame is reached
(R151, R152, R154, R160). -/
def Obligations.LinkSendsStopsBeforeStarts : Prop :=
  ∀ (s : State) (place : Order → List Awaiting),
    (∀ o, place o = (if s.link.awaiting.length < 16 then s.link.awaiting else supersede s.link.awaiting) ++
      [⟨o, .running, false, .stopped⟩]) →
    Settled s →
    (s.link.transmitter ≠ none ∨ s.link.flow = .hold ∨
        (16 ≤ s.link.awaiting.length ∧ ∀ x ∈ s.link.awaiting, x.stage = .running) →
      exec .beginSend s = .next s) ∧
    (s.link.transmitter = none → s.link.flow = .ready →
      s.link.awaiting.length < 16 ∨ (∃ x ∈ s.link.awaiting, x.stage = .expired) →
      (∀ o rest, s.link.stopLane = o :: rest →
        ∃ out, exec .beginSend s =
          .next { s with link := { s.link with
            stopLane := rest, transmitter := some o, awaiting := place o, outstanding := out } } ∧
          ∀ x ∈ out, x ∈ s.link.outstanding) ∧
      (∀ o rest, s.link.stopLane = [] → s.link.startLane = o :: rest → s.link.outstanding.length < 8 →
        ∃ out, exec .beginSend s =
          .next { s with link := { s.link with
            startLane := rest, transmitter := some o, awaiting := place o, outstanding := out } } ∧
          (∀ b n, o.body.kind = .punchIn → o.booth = some b → o.take = some n → takeIsLive n s = true →
            out = s.link.outstanding ++ [.punchIn b n]) ∧
          (∀ b c, o.body.kind = .play → o.booth = some b → o.cue = some c →
            (∃ e ∈ (s.booth b).window, e.cueId = c ∧ e.startTag = some o.tag) →
            out = s.link.outstanding ++ [.play b c o.tag])) ∧
      (s.link.stopLane = [] → s.link.startLane = [] ∨ 8 ≤ s.link.outstanding.length →
        exec .beginSend s = .next s)) ∧
    ∀ o, s.link.transmitter = some o →
      exec .orderTransmissionEnd s =
        .next { s with link := { s.link with
          transmitter := none
          awaiting := s.link.awaiting.map fun x =>
            if x.order.tag = o.tag then
              { x with
                sendEnded := true
                timer := if x.stage = .running ∧ x.order.reached = true ∧ x.timer = .stopped
                  then .running (2 * 8) s.stage.rate else x.timer }
            else x } }

/-- The expiry of a running entry's timer makes it EXPIRED with its place and tag kept and posts SILENT, placed when
the class is enabled and the queue has room; a take whose PUNCH-IN or PUNCH-OUT expired is flagged, and an expired
CANCEL makes a WITHDRAWING take TRUNCATED, its span shrunk where that leaves one, with PUNCH-OUT NOW raised and a TAKE
notice STATE posted; a take in another state stays as it is. A flag added to a take no longer live posts a TAKE notice
UPDATE beside SILENT, and any other flagging SILENT alone (R110, R122, R132, R139, R155; entry 19). -/
def Obligations.AwaitingExpiryReportsSilence : Prop :=
  ∀ (tag : Tag) (a : Awaiting) (s : State), Settled s → SerialsSound s → findAwaiting tag s = some a →
    a.stage = .running → a.timer ≠ .stopped →
    ∃ t, exec (.awaitingExpiry tag) s = .next t ∧ Elsewhere s t ∧
      t.link.awaiting = s.link.awaiting.map (fun x =>
        if x.order.tag = tag then { x with stage := .expired, timer := .stopped } else x) ∧
      t.booths = s.booths ∧
      (s.ctl.queue.length ≤ 8 → s.ctl.enabled.has .recorder = true →
        noticeFrame (.recSilent tag a.order.body.kind a.order.booth a.order.take) ∈ t.ctl.queue) ∧
      (a.order.take = none →
        t = noticed .recorder (.recSilent tag a.order.body.kind a.order.booth none)
          { s with link := { s.link with awaiting := t.link.awaiting } }) ∧
      ∀ n x, a.order.take = some n → x ∈ s.log.records → x.serial = n →
        (a.order.body.kind = .punchIn →
          t.log.records = s.log.records.map (fun y => if y.serial = n then
            { y with flags := { y.flags with unconfirmedIn := true } } else y) ∧
          t.spans = s.spans ∧ t.link.stopLane = s.link.stopLane ∧
          (x.state.isLive = true ∨ x.flags.unconfirmedIn = true →
            t.ctl = s.ctl.placeNotice .recorder
              (noticeFrame (.recSilent tag a.order.body.kind a.order.booth a.order.take))) ∧
          (x.state.isLive = false → x.flags.unconfirmedIn = false → s.ctl.queue.length ≤ 8 →
            s.ctl.enabled.has .take = true →
            noticeFrame (.take .update { x with flags := { x.flags with unconfirmedIn := true } }) ∈ t.ctl.queue)) ∧
        (a.order.body.kind = .punchOut ∨ a.order.body.kind = .punchOutNow →
          t.log.records = s.log.records.map (fun y => if y.serial = n then
            { y with flags := { y.flags with unconfirmedOut := true } } else y) ∧
          t.spans = s.spans ∧ t.link.stopLane = s.link.stopLane ∧
          (x.state.isLive = true ∨ x.flags.unconfirmedOut = true →
            t.ctl = s.ctl.placeNotice .recorder
              (noticeFrame (.recSilent tag a.order.body.kind a.order.booth a.order.take))) ∧
          (x.state.isLive = false → x.flags.unconfirmedOut = false → s.ctl.queue.length ≤ 8 →
            s.ctl.enabled.has .take = true →
            noticeFrame (.take .update { x with flags := { x.flags with unconfirmedOut := true } }) ∈ t.ctl.queue)) ∧
        (∀ target c, a.order.body = .cancel target → x.state = .withdrawing → x.closing = some c →
          TruncatedLate x c s t ∧
          (s.ctl.queue.length ≤ 8 → s.ctl.enabled.has .take = true →
            ∃ y ∈ t.log.records, y.serial = n ∧ noticeFrame (.take .state y) ∈ t.ctl.queue) ∧
          ∃ raised, t.link.stopLane = s.link.stopLane ++ [raised] ∧ raised.body = .punchOutNow x.track ∧
            raised.booth = some x.booth ∧ raised.take = some n) ∧
        (∀ target, a.order.body = .cancel target → x.state ≠ .withdrawing →
          t.log = s.log ∧ t.spans = s.spans ∧ t.link.stopLane = s.link.stopLane ∧
          t.ctl = s.ctl.placeNotice .recorder
            (noticeFrame (.recSilent tag a.order.body.kind a.order.booth a.order.take)))

/-! ## Words and bodies on the wire -/

/-- At every rate each valid label has a count below the frames per day and is the label of that count, and each count
below the frames per day is the count of its label, which is valid (R3, R4, R5, R6). -/
def Obligations.LabelsAndCountsCorrespond : Prop :=
  (∀ (rate : StageRate) (h m s f : Nat), labelValid rate h m s f = true →
    countOfLabel rate h m s f < rate.perDay ∧ labelOfCount rate (countOfLabel rate h m s f) = ⟨h, m, s, f⟩) ∧
  ∀ (rate : StageRate) (n : Nat), n < rate.perDay →
    labelValid rate (labelOfCount rate n).h (labelOfCount rate n).m (labelOfCount rate n).s (labelOfCount rate n).f
      = true ∧
    countOfLabel rate (labelOfCount rate n).h (labelOfCount rate n).m (labelOfCount rate n).s (labelOfCount rate n).f
      = n

/-- The bodies of CUE-PUT, REEL-DEFINE, STAGE-SET, BOOTH-SET and NOTICE-SET read back every value that R10, R34, R39,
R165 and R183 allow (R190, R192, R195). -/
def Obligations.RequestBodiesReadBack : Prop :=
  (∀ (rate : StageRate) (f : CueFields), 1 ≤ f.id → f.id ≤ 65535 → f.inPos < rate.perDay → f.outPos < rate.perDay →
    f.character ≤ 63 → 1 ≤ f.tracks.length → f.tracks.length ≤ 6 → f.tracks.Nodup →
    (∀ t ∈ f.tracks, 1 ≤ t ∧ t ≤ 32) → (∀ n, f.streamer = some n → n ≤ 240) →
    (∀ p, f.beep = some p → p.count ≤ 4 ∧ 6 ≤ p.spacing ∧ p.spacing ≤ 60 ∧ 1 ≤ p.length ∧ p.length < p.spacing) →
    (∀ n, f.scriptRef = some n → n ≤ 4294967295) →
    (cueFieldBytes f).length = 26 ∧ readCuePut rate (cueFieldBytes f) = .ok f) ∧
  (∀ (rate : StageRate) (r : Reel), 1 ≤ r.id → r.id ≤ 12 → 1 ≤ r.length → r.length ≤ rate.perHour →
    r.start + r.length ≤ rate.lastReelEnd → r.label.length ≤ 8 →
    (∀ c ∈ r.label, 0x20 ≤ c.toNat ∧ c.toNat ≤ 0x7E) → readReelDefine rate (reelBytes r) = .ok r) ∧
  (∀ x : Stage, 2 ≤ x.lockCount → x.lockCount ≤ 8 → 1 ≤ x.fwLimit → x.fwLimit ≤ 30 → x.latency ≤ 15 → x.pre ≤ 48 →
    x.post ≤ 48 → readStageSet (stageBytes x) = .ok x) ∧
  (∀ (b : BoothId) (x : BoothSettings), x.delay ≤ 7 → x.streamer ≤ 240 → x.beep.count ≤ 4 → 6 ≤ x.beep.spacing →
    x.beep.spacing ≤ 60 → 1 ≤ x.beep.length → x.beep.length < x.beep.spacing → x.priority ≤ 3 →
    readBoothSet (byteOf (boothNumber b) :: settingsBytes x) = .ok (b, x)) ∧
  ∀ classes : ClassSet, readNoticeSet [classes.byte] = .ok classes

/-! ## Invariants -/

/-- The invariants of Safety.lean hold right after power-on. -/
def Obligations.InvariantsHoldAtReset : Prop :=
  Settled State.reset ∧ ChaseSound State.reset ∧ LineTimersSound State.reset ∧ ReelMapSound State.reset ∧
  CueTableSound State.reset ∧ SpansSound State.reset ∧ SerialsSound State.reset ∧ TakeFieldsSound State.reset ∧
  LinkListsSound State.reset ∧ QueueSound State.reset ∧ WindowsSound State.reset ∧ SpansAgree State.reset ∧
  RunSound State.reset

/-- Across every step: nothing is left on its way to the outbound queue and no outstanding start that needs no
further stop (R160); the start lane, the awaiting list and the outstanding-start list keep their bounds of 4, 16 and 8
(R146, R151, R161); the outbound queue holds at most 16 frames and a reply waits only while it is full (R179, R180); each
cue window holds at most two live entries of its active pass, front first, none outside ROLLING and STOPPING and one cue
alone in STOPPING (R68, R79, R88). -/
def Obligations.ListsAndQueuesStayBounded : Prop :=
  (∀ s t : State, Settled s → step s = .next t → Settled t) ∧
  (∀ s t : State, LinkListsSound s → step s = .next t → LinkListsSound t) ∧
  (∀ s t : State, QueueSound s → step s = .next t → QueueSound t) ∧
  (∀ s t : State, WindowsSound s → step s = .next t → WindowsSound t)

/-- The items of the chase unit agree with its state, and the NO_SIGNAL timers run exactly in NO_SIGNAL, across every
step (R19, R20, R170). -/
def Obligations.ChaseAndLineTimersStaySound : Prop :=
  ∀ s t : State, ChaseSound s ∧ LineTimersSound s → step s = .next t → ChaseSound t ∧ LineTimersSound t

/-- The reel map keeps its bound, its order, the day-end margin and disjoint spans across every step (R10). The cue
table keeps its bound and distinct ascending ids across every step (R40, R52). -/
def Obligations.TablesStaySound : Prop :=
  (∀ s t : State, ReelMapSound s → step s = .next t → ReelMapSound t) ∧
  (∀ s t : State, CueTableSound s → step s = .next t → CueTableSound t)

/-- At most 1,024 spans are occupied and those of one track are pairwise disjoint, across every step (R113, R114). Where
serials and record fields are sound, each occupied span is that of one record, and each record with a span end owns one,
across every step (R115). -/
def Obligations.OccupiedSpansStayDisjoint : Prop :=
  (∀ s t : State, SpansSound s → step s = .next t → SpansSound t) ∧
  ∀ s t : State, SerialsSound s → TakeFieldsSound s → SpansAgree s → step s = .next t → SpansAgree t

/-- Serials ascend below the counter and each take record's fields agree with its state, across every step: a span end
while it holds a span, a reason in FAILED alone, a closing position in WITHDRAWING alone, circled only when closed
(R127, R128, R129, R130, R133). -/
def Obligations.TakeRecordsStaySound : Prop :=
  ∀ s t : State, SerialsSound s ∧ TakeFieldsSound s → step s = .next t → SerialsSound t ∧ TakeFieldsSound t

/-- There is an invariant of the part that holds right after power-on, whatever commands wait, and across every step, under
which: the stop lane holds at most 8 orders, so that no stop is ever refused a place; each PLANNED or OPEN take is that of a
live entry of its booth, which has at most two of them and at most one OPEN; and a lamp is on only while the take of its
entry is PLANNED or OPEN (R92, R103, R107, R146, R147, R161, R173). -/
def Obligations.RunsKeepLanesTakesAndLampsSound : Prop :=
  ∃ Inv : State → Prop, Inv State.reset ∧ (∀ s t : State, Inv s → step s = .next t → Inv t) ∧
    (∀ (s : State) (cs : List Instr), Inv s → Inv { s with pending := cs }) ∧ ∀ s : State, Inv s → RunSound s
end

