-- ==== Sys2Proof/Laws/PerInstr.lean ====
section
/-! SUPPORT. Laws/PerInstr.lean: the family Framing, one lemma for each command: a well-formed command that a control frame
carries stands under the row of its frame, and its body fits a frame (R175, R191). -/

namespace Sys2Proof.Laws.Framing

/-- A well-formed command that a control frame carries is the row of that frame, and its body has at most 240 bytes. -/
def Statement (i : Instr) : Prop :=
  i.wellFormed = true → ∀ kind tag body, i.request = some (kind, tag, body) →
    rowOfFrame kind tag body = i ∧ body.length ≤ 240

/-- What the check of a request row says. -/
theorem of_requestFits {i : Instr} (h : requestFits i = true) (kind : Byte) (tag : Tag) (body : List Byte)
    (hr : i.request = some (kind, tag, body)) : rowOfFrame kind tag body = i ∧ body.length ≤ 240 := by
  simp only [requestFits, hr, bodyFits, Bool.and_eq_true, decide_eq_true_eq] at h
  exact ⟨h.2, h.1⟩

/-- A command that no control frame carries. -/
theorem of_noFrame {i : Instr} (h : i.request = none) : Statement i :=
  fun _ _ _ _ hr => absurd (h.symm.trans hr) (by simp)

theorem powerOn : Statement .powerOn :=
  of_noFrame rfl

theorem positionWord (bytes : List Byte) : Statement (.positionWord bytes) :=
  of_noFrame rfl

theorem absenceTimerExpiry : Statement .absenceTimerExpiry :=
  of_noFrame rfl

theorem freewheelTimerExpiry : Statement .freewheelTimerExpiry :=
  of_noFrame rfl

theorem noSignalTimerExpiry (line : BoothId) : Statement (.noSignalTimerExpiry line) :=
  of_noFrame rfl

theorem boothFrameSent (line : BoothId) : Statement (.boothFrameSent line) :=
  of_noFrame rfl

theorem frameFault (bytes : List Byte) : Statement (.frameFault bytes) :=
  of_noFrame rfl

theorem gapTimerExpiry : Statement .gapTimerExpiry :=
  of_noFrame rfl

theorem busy (kind : Byte) (tag : Tag) (body : List Byte) : Statement (.busy kind tag body) :=
  of_noFrame rfl

theorem restartingDiscard (kind : Byte) (tag : Tag) (body : List Byte) : Statement (.restartingDiscard kind tag body) :=
  of_noFrame rfl

theorem unknownKind (kind : Byte) (tag : Tag) (body : List Byte) : Statement (.unknownKind kind tag body) :=
  fun h => of_requestFits h

theorem reelDefine (tag : Tag) (body : List Byte) : Statement (.reelDefine tag body) :=
  fun h => of_requestFits h

theorem reelDrop (tag : Tag) (body : List Byte) : Statement (.reelDrop tag body) :=
  fun h => of_requestFits h

theorem reelList (tag : Tag) (body : List Byte) : Statement (.reelList tag body) :=
  fun h => of_requestFits h

theorem stageSet (tag : Tag) (body : List Byte) : Statement (.stageSet tag body) :=
  fun h => of_requestFits h

theorem stageGet (tag : Tag) (body : List Byte) : Statement (.stageGet tag body) :=
  fun h => of_requestFits h

theorem cuePut (tag : Tag) (body : List Byte) : Statement (.cuePut tag body) :=
  fun h => of_requestFits h

theorem cueAmend (tag : Tag) (body : List Byte) : Statement (.cueAmend tag body) :=
  fun h => of_requestFits h

theorem cueDrop (tag : Tag) (body : List Byte) : Statement (.cueDrop tag body) :=
  fun h => of_requestFits h

theorem cueGet (tag : Tag) (body : List Byte) : Statement (.cueGet tag body) :=
  fun h => of_requestFits h

theorem cueList (tag : Tag) (body : List Byte) : Statement (.cueList tag body) :=
  fun h => of_requestFits h

theorem passBuildRange (tag : Tag) (body : List Byte) : Statement (.passBuildRange tag body) :=
  fun h => of_requestFits h

theorem passBuildList (tag : Tag) (body : List Byte) : Statement (.passBuildList tag body) :=
  fun h => of_requestFits h

theorem passGet (tag : Tag) (body : List Byte) : Statement (.passGet tag body) :=
  fun h => of_requestFits h

theorem passCutover (tag : Tag) (body : List Byte) : Statement (.passCutover tag body) :=
  fun h => of_requestFits h

theorem passDiscard (tag : Tag) (body : List Byte) : Statement (.passDiscard tag body) :=
  fun h => of_requestFits h

theorem passStop (tag : Tag) (body : List Byte) : Statement (.passStop tag body) :=
  fun h => of_requestFits h

theorem passAbort (tag : Tag) (body : List Byte) : Statement (.passAbort tag body) :=
  fun h => of_requestFits h

theorem passClear (tag : Tag) (body : List Byte) : Statement (.passClear tag body) :=
  fun h => of_requestFits h

theorem boothHold (tag : Tag) (body : List Byte) : Statement (.boothHold tag body) :=
  fun h => of_requestFits h

theorem boothRelease (tag : Tag) (body : List Byte) : Statement (.boothRelease tag body) :=
  fun h => of_requestFits h

theorem trackGet (tag : Tag) (body : List Byte) : Statement (.trackGet tag body) :=
  fun h => of_requestFits h

theorem takeMarkSet (tag : Tag) (body : List Byte) : Statement (.takeMarkSet tag body) :=
  fun h => of_requestFits h

theorem takeMarkClear (tag : Tag) (body : List Byte) : Statement (.takeMarkClear tag body) :=
  fun h => of_requestFits h

theorem takeMarkInvert (tag : Tag) (body : List Byte) : Statement (.takeMarkInvert tag body) :=
  fun h => of_requestFits h

theorem takeDrop (tag : Tag) (body : List Byte) : Statement (.takeDrop tag body) :=
  fun h => of_requestFits h

theorem logSeekOldest (tag : Tag) (body : List Byte) : Statement (.logSeekOldest tag body) :=
  fun h => of_requestFits h

theorem logSeekNewest (tag : Tag) (body : List Byte) : Statement (.logSeekNewest tag body) :=
  fun h => of_requestFits h

theorem logSeekSerial (tag : Tag) (body : List Byte) : Statement (.logSeekSerial tag body) :=
  fun h => of_requestFits h

theorem logRead (tag : Tag) (body : List Byte) : Statement (.logRead tag body) :=
  fun h => of_requestFits h

theorem boothSet (tag : Tag) (body : List Byte) : Statement (.boothSet tag body) :=
  fun h => of_requestFits h

theorem boothFilterSet (tag : Tag) (body : List Byte) : Statement (.boothFilterSet tag body) :=
  fun h => of_requestFits h

theorem boothFilterClear (tag : Tag) (body : List Byte) : Statement (.boothFilterClear tag body) :=
  fun h => of_requestFits h

theorem boothFilterInvert (tag : Tag) (body : List Byte) : Statement (.boothFilterInvert tag body) :=
  fun h => of_requestFits h

theorem boothGet (tag : Tag) (body : List Byte) : Statement (.boothGet tag body) :=
  fun h => of_requestFits h

theorem lineGet (tag : Tag) (body : List Byte) : Statement (.lineGet tag body) :=
  fun h => of_requestFits h

theorem noticeSet (tag : Tag) (body : List Byte) : Statement (.noticeSet tag body) :=
  fun h => of_requestFits h

theorem status (tag : Tag) (body : List Byte) : Statement (.status tag body) :=
  fun h => of_requestFits h

theorem ident (tag : Tag) (body : List Byte) : Statement (.ident tag body) :=
  fun h => of_requestFits h

theorem restart (tag : Tag) (body : List Byte) : Statement (.restart tag body) :=
  fun h => of_requestFits h

theorem outboundFrameSent : Statement .outboundFrameSent :=
  of_noFrame rfl

theorem done (tag : Tag) (actual : Word32) : Statement (.done tag actual) :=
  of_noFrame rfl

theorem refused (tag : Tag) (reason : RefusedReason) : Statement (.refused tag reason) :=
  of_noFrame rfl

theorem flow (value : Flow) : Statement (.flow value) :=
  of_noFrame rfl

theorem unreadableMessage (bytes : List Byte) : Statement (.unreadableMessage bytes) :=
  of_noFrame rfl

theorem beginSend : Statement .beginSend :=
  of_noFrame rfl

theorem orderTransmissionEnd : Statement .orderTransmissionEnd :=
  of_noFrame rfl

theorem awaitingExpiry (tag : Tag) : Statement (.awaitingExpiry tag) :=
  of_noFrame rfl

end Sys2Proof.Laws.Framing
end

