-- ==== Sys2Proof/Laws/State.lean ====
section
/-! SUPPORT. Laws/State.lean: what each update of the state leaves as it was, one lemma for each update with one clause
for each field, and what it does to the field it changes. A proof uses these in place of unfolding an update. -/

namespace Sys2Proof.Machine

/-! ## Booths and lines by their number -/

@[simp] theorem Quad.get_set_same {α : Type} (q : Quad α) (b : BoothId) (x : α) : (q.set b x).get b = x := by
  cases b <;> rfl

theorem Quad.get_set_other {α : Type} (q : Quad α) {b c : BoothId} (x : α) (h : c ≠ b) :
    (q.set b x).get c = q.get c := by
  cases b <;> cases c <;> first | rfl | exact absurd rfl h

@[simp] theorem Quad.get_map {α β : Type} (f : α → β) (q : Quad α) (b : BoothId) : (q.map f).get b = f (q.get b) := by
  cases b <;> rfl

@[simp] theorem modBooth_same (b : BoothId) (f : Booth → Booth) (s : State) :
    (modBooth b f s).booth b = f (s.booth b) := by
  simp [State.booth, modBooth]

theorem modBooth_other (b c : BoothId) (f : Booth → Booth) (s : State) (h : c ≠ b) :
    (modBooth b f s).booth c = s.booth c := by
  simp [State.booth, modBooth, Quad.get_set_other _ _ h]

/-! ## The fields an update leaves -/

@[simp] theorem modBooth_frame (b : BoothId) (f : Booth → Booth) (s : State) :
    (modBooth b f s).chase = s.chase ∧ (modBooth b f s).stage = s.stage ∧ (modBooth b f s).reels = s.reels ∧
    (modBooth b f s).cues = s.cues ∧ (modBooth b f s).spans = s.spans ∧ (modBooth b f s).log = s.log ∧
    (modBooth b f s).link = s.link ∧ (modBooth b f s).lines = s.lines ∧ (modBooth b f s).ctl = s.ctl ∧
    (modBooth b f s).posted = s.posted ∧ (modBooth b f s).free = s.free ∧ (modBooth b f s).pending = s.pending :=
  ⟨rfl, rfl, rfl, rfl, rfl, rfl, rfl, rfl, rfl, rfl, rfl, rfl⟩

@[simp] theorem post_frame (src : Source) (x : OutFrame) (s : State) :
    (post src x s).chase = s.chase ∧ (post src x s).stage = s.stage ∧ (post src x s).reels = s.reels ∧
    (post src x s).cues = s.cues ∧ (post src x s).booths = s.booths ∧ (post src x s).spans = s.spans ∧
    (post src x s).log = s.log ∧ (post src x s).link = s.link ∧ (post src x s).lines = s.lines ∧
    (post src x s).ctl = s.ctl ∧ (post src x s).free = s.free ∧ (post src x s).pending = s.pending :=
  ⟨rfl, rfl, rfl, rfl, rfl, rfl, rfl, rfl, rfl, rfl, rfl, rfl⟩

@[simp] theorem postNotice_frame (src : Source) (n : Notice) (s : State) :
    (postNotice src n s).chase = s.chase ∧ (postNotice src n s).stage = s.stage ∧
    (postNotice src n s).reels = s.reels ∧ (postNotice src n s).cues = s.cues ∧
    (postNotice src n s).booths = s.booths ∧ (postNotice src n s).spans = s.spans ∧
    (postNotice src n s).log = s.log ∧ (postNotice src n s).link = s.link ∧ (postNotice src n s).lines = s.lines ∧
    (postNotice src n s).ctl = s.ctl ∧ (postNotice src n s).free = s.free ∧
    (postNotice src n s).pending = s.pending :=
  ⟨rfl, rfl, rfl, rfl, rfl, rfl, rfl, rfl, rfl, rfl, rfl, rfl⟩

@[simp] theorem modTake_frame (n : Nat) (f : Take → Take) (s : State) :
    (modTake n f s).chase = s.chase ∧ (modTake n f s).stage = s.stage ∧ (modTake n f s).reels = s.reels ∧
    (modTake n f s).cues = s.cues ∧ (modTake n f s).booths = s.booths ∧ (modTake n f s).spans = s.spans ∧
    (modTake n f s).link = s.link ∧ (modTake n f s).lines = s.lines ∧ (modTake n f s).ctl = s.ctl ∧
    (modTake n f s).posted = s.posted ∧ (modTake n f s).free = s.free ∧ (modTake n f s).pending = s.pending :=
  ⟨rfl, rfl, rfl, rfl, rfl, rfl, rfl, rfl, rfl, rfl, rfl, rfl⟩

@[simp] theorem releaseSpan_frame (n : Nat) (s : State) :
    (releaseSpan n s).chase = s.chase ∧ (releaseSpan n s).stage = s.stage ∧ (releaseSpan n s).reels = s.reels ∧
    (releaseSpan n s).cues = s.cues ∧ (releaseSpan n s).booths = s.booths ∧ (releaseSpan n s).log = s.log ∧
    (releaseSpan n s).link = s.link ∧ (releaseSpan n s).lines = s.lines ∧ (releaseSpan n s).ctl = s.ctl ∧
    (releaseSpan n s).posted = s.posted ∧ (releaseSpan n s).free = s.free ∧ (releaseSpan n s).pending = s.pending :=
  ⟨rfl, rfl, rfl, rfl, rfl, rfl, rfl, rfl, rfl, rfl, rfl, rfl⟩

@[simp] theorem shrinkSpan_frame (n stop : Nat) (s : State) :
    (shrinkSpan n stop s).chase = s.chase ∧ (shrinkSpan n stop s).stage = s.stage ∧
    (shrinkSpan n stop s).reels = s.reels ∧ (shrinkSpan n stop s).cues = s.cues ∧
    (shrinkSpan n stop s).booths = s.booths ∧ (shrinkSpan n stop s).log = s.log ∧
    (shrinkSpan n stop s).link = s.link ∧ (shrinkSpan n stop s).lines = s.lines ∧
    (shrinkSpan n stop s).ctl = s.ctl ∧ (shrinkSpan n stop s).posted = s.posted ∧
    (shrinkSpan n stop s).free = s.free ∧ (shrinkSpan n stop s).pending = s.pending :=
  ⟨rfl, rfl, rfl, rfl, rfl, rfl, rfl, rfl, rfl, rfl, rfl, rfl⟩

@[simp] theorem raiseStop_frame (o : OrderBody) (b : Option BoothId) (t c r : Option Nat) (s : State) :
    (raiseStop o b t c r s).chase = s.chase ∧ (raiseStop o b t c r s).stage = s.stage ∧
    (raiseStop o b t c r s).reels = s.reels ∧ (raiseStop o b t c r s).cues = s.cues ∧
    (raiseStop o b t c r s).booths = s.booths ∧ (raiseStop o b t c r s).spans = s.spans ∧
    (raiseStop o b t c r s).log = s.log ∧ (raiseStop o b t c r s).lines = s.lines ∧
    (raiseStop o b t c r s).ctl = s.ctl ∧ (raiseStop o b t c r s).posted = s.posted ∧
    (raiseStop o b t c r s).free = s.free ∧ (raiseStop o b t c r s).pending = s.pending :=
  ⟨rfl, rfl, rfl, rfl, rfl, rfl, rfl, rfl, rfl, rfl, rfl, rfl⟩

@[simp] theorem enterStart_frame (o : OrderBody) (b : BoothId) (t c : Option Nat) (p : Nat) (s : State) :
    (enterStart o b t c p s).chase = s.chase ∧ (enterStart o b t c p s).stage = s.stage ∧
    (enterStart o b t c p s).reels = s.reels ∧ (enterStart o b t c p s).cues = s.cues ∧
    (enterStart o b t c p s).booths = s.booths ∧ (enterStart o b t c p s).spans = s.spans ∧
    (enterStart o b t c p s).log = s.log ∧ (enterStart o b t c p s).lines = s.lines ∧
    (enterStart o b t c p s).ctl = s.ctl ∧ (enterStart o b t c p s).posted = s.posted ∧
    (enterStart o b t c p s).free = s.free ∧ (enterStart o b t c p s).pending = s.pending :=
  ⟨rfl, rfl, rfl, rfl, rfl, rfl, rfl, rfl, rfl, rfl, rfl, rfl⟩

@[simp] theorem withdrawStarts_frame (p : Order → Bool) (s : State) :
    (withdrawStarts p s).chase = s.chase ∧ (withdrawStarts p s).stage = s.stage ∧
    (withdrawStarts p s).reels = s.reels ∧ (withdrawStarts p s).cues = s.cues ∧
    (withdrawStarts p s).booths = s.booths ∧ (withdrawStarts p s).spans = s.spans ∧
    (withdrawStarts p s).log = s.log ∧ (withdrawStarts p s).lines = s.lines ∧ (withdrawStarts p s).ctl = s.ctl ∧
    (withdrawStarts p s).posted = s.posted ∧ (withdrawStarts p s).free = s.free ∧
    (withdrawStarts p s).pending = s.pending :=
  ⟨rfl, rfl, rfl, rfl, rfl, rfl, rfl, rfl, rfl, rfl, rfl, rfl⟩

@[simp] theorem removeStops_frame (p : Order → Bool) (s : State) :
    (removeStops p s).chase = s.chase ∧ (removeStops p s).stage = s.stage ∧ (removeStops p s).reels = s.reels ∧
    (removeStops p s).cues = s.cues ∧ (removeStops p s).booths = s.booths ∧ (removeStops p s).spans = s.spans ∧
    (removeStops p s).log = s.log ∧ (removeStops p s).lines = s.lines ∧ (removeStops p s).ctl = s.ctl ∧
    (removeStops p s).posted = s.posted ∧ (removeStops p s).free = s.free ∧ (removeStops p s).pending = s.pending :=
  ⟨rfl, rfl, rfl, rfl, rfl, rfl, rfl, rfl, rfl, rfl, rfl, rfl⟩

@[simp] theorem reportReached_frame (p : Order → Bool) (s : State) :
    (reportReached p s).chase = s.chase ∧ (reportReached p s).stage = s.stage ∧
    (reportReached p s).reels = s.reels ∧ (reportReached p s).cues = s.cues ∧
    (reportReached p s).booths = s.booths ∧ (reportReached p s).spans = s.spans ∧ (reportReached p s).log = s.log ∧
    (reportReached p s).lines = s.lines ∧ (reportReached p s).ctl = s.ctl ∧ (reportReached p s).posted = s.posted ∧
    (reportReached p s).free = s.free ∧ (reportReached p s).pending = s.pending :=
  ⟨rfl, rfl, rfl, rfl, rfl, rfl, rfl, rfl, rfl, rfl, rfl, rfl⟩

@[simp] theorem removeAwaiting_frame (t : Tag) (s : State) :
    (removeAwaiting t s).chase = s.chase ∧ (removeAwaiting t s).stage = s.stage ∧
    (removeAwaiting t s).reels = s.reels ∧ (removeAwaiting t s).cues = s.cues ∧
    (removeAwaiting t s).booths = s.booths ∧ (removeAwaiting t s).spans = s.spans ∧
    (removeAwaiting t s).log = s.log ∧ (removeAwaiting t s).lines = s.lines ∧ (removeAwaiting t s).ctl = s.ctl ∧
    (removeAwaiting t s).posted = s.posted ∧ (removeAwaiting t s).free = s.free ∧
    (removeAwaiting t s).pending = s.pending :=
  ⟨rfl, rfl, rfl, rfl, rfl, rfl, rfl, rfl, rfl, rfl, rfl, rfl⟩

@[simp] theorem expireAwaiting_frame (t : Tag) (s : State) :
    (expireAwaiting t s).chase = s.chase ∧ (expireAwaiting t s).stage = s.stage ∧
    (expireAwaiting t s).reels = s.reels ∧ (expireAwaiting t s).cues = s.cues ∧
    (expireAwaiting t s).booths = s.booths ∧ (expireAwaiting t s).spans = s.spans ∧
    (expireAwaiting t s).log = s.log ∧ (expireAwaiting t s).lines = s.lines ∧ (expireAwaiting t s).ctl = s.ctl ∧
    (expireAwaiting t s).posted = s.posted ∧ (expireAwaiting t s).free = s.free ∧
    (expireAwaiting t s).pending = s.pending :=
  ⟨rfl, rfl, rfl, rfl, rfl, rfl, rfl, rfl, rfl, rfl, rfl, rfl⟩

@[simp] theorem modActive_frame (b : BoothId) (f : Context → Context) (s : State) :
    (modActive b f s).chase = s.chase ∧ (modActive b f s).stage = s.stage ∧ (modActive b f s).reels = s.reels ∧
    (modActive b f s).cues = s.cues ∧ (modActive b f s).spans = s.spans ∧ (modActive b f s).log = s.log ∧
    (modActive b f s).link = s.link ∧ (modActive b f s).lines = s.lines ∧ (modActive b f s).ctl = s.ctl ∧
    (modActive b f s).posted = s.posted ∧ (modActive b f s).free = s.free ∧ (modActive b f s).pending = s.pending :=
  ⟨rfl, rfl, rfl, rfl, rfl, rfl, rfl, rfl, rfl, rfl, rfl, rfl⟩

@[simp] theorem modEntry_frame (b : BoothId) (c : Nat) (f : LiveEntry → LiveEntry) (s : State) :
    (modEntry b c f s).chase = s.chase ∧ (modEntry b c f s).stage = s.stage ∧ (modEntry b c f s).reels = s.reels ∧
    (modEntry b c f s).cues = s.cues ∧ (modEntry b c f s).spans = s.spans ∧ (modEntry b c f s).log = s.log ∧
    (modEntry b c f s).link = s.link ∧ (modEntry b c f s).lines = s.lines ∧ (modEntry b c f s).ctl = s.ctl ∧
    (modEntry b c f s).posted = s.posted ∧ (modEntry b c f s).free = s.free ∧
    (modEntry b c f s).pending = s.pending :=
  ⟨rfl, rfl, rfl, rfl, rfl, rfl, rfl, rfl, rfl, rfl, rfl, rfl⟩

@[simp] theorem modCues_frame (ids : List Nat) (f : Cue → Cue) (s : State) :
    (modCues ids f s).chase = s.chase ∧ (modCues ids f s).stage = s.stage ∧ (modCues ids f s).reels = s.reels ∧
    (modCues ids f s).booths = s.booths ∧ (modCues ids f s).spans = s.spans ∧ (modCues ids f s).log = s.log ∧
    (modCues ids f s).link = s.link ∧ (modCues ids f s).lines = s.lines ∧ (modCues ids f s).ctl = s.ctl ∧
    (modCues ids f s).posted = s.posted ∧ (modCues ids f s).free = s.free ∧ (modCues ids f s).pending = s.pending :=
  ⟨rfl, rfl, rfl, rfl, rfl, rfl, rfl, rfl, rfl, rfl, rfl, rfl⟩

@[simp] theorem modLine_frame (b : BoothId) (f : Line → Line) (s : State) :
    (modLine b f s).chase = s.chase ∧ (modLine b f s).stage = s.stage ∧ (modLine b f s).reels = s.reels ∧
    (modLine b f s).cues = s.cues ∧ (modLine b f s).booths = s.booths ∧ (modLine b f s).spans = s.spans ∧
    (modLine b f s).log = s.log ∧ (modLine b f s).link = s.link ∧ (modLine b f s).ctl = s.ctl ∧
    (modLine b f s).posted = s.posted ∧ (modLine b f s).free = s.free ∧ (modLine b f s).pending = s.pending :=
  ⟨rfl, rfl, rfl, rfl, rfl, rfl, rfl, rfl, rfl, rfl, rfl, rfl⟩

@[simp] theorem frameDue_frame (b : BoothId) (p : Option Nat) (s : State) :
    (frameDue b p s).chase = s.chase ∧ (frameDue b p s).stage = s.stage ∧ (frameDue b p s).reels = s.reels ∧
    (frameDue b p s).cues = s.cues ∧ (frameDue b p s).booths = s.booths ∧ (frameDue b p s).spans = s.spans ∧
    (frameDue b p s).log = s.log ∧ (frameDue b p s).link = s.link ∧ (frameDue b p s).ctl = s.ctl ∧
    (frameDue b p s).posted = s.posted ∧ (frameDue b p s).free = s.free ∧ (frameDue b p s).pending = s.pending :=
  ⟨rfl, rfl, rfl, rfl, rfl, rfl, rfl, rfl, rfl, rfl, rfl, rfl⟩

@[simp] theorem setLineTimers_frame (t : Timer) (s : State) :
    (setLineTimers t s).chase = s.chase ∧ (setLineTimers t s).stage = s.stage ∧
    (setLineTimers t s).reels = s.reels ∧ (setLineTimers t s).cues = s.cues ∧
    (setLineTimers t s).booths = s.booths ∧ (setLineTimers t s).spans = s.spans ∧ (setLineTimers t s).log = s.log ∧
    (setLineTimers t s).link = s.link ∧ (setLineTimers t s).ctl = s.ctl ∧ (setLineTimers t s).posted = s.posted ∧
    (setLineTimers t s).free = s.free ∧ (setLineTimers t s).pending = s.pending :=
  ⟨rfl, rfl, rfl, rfl, rfl, rfl, rfl, rfl, rfl, rfl, rfl, rfl⟩

@[simp] theorem circleTakes_frame (op : SetOp) (ns : List Nat) (s : State) :
    (circleTakes op ns s).chase = s.chase ∧ (circleTakes op ns s).stage = s.stage ∧
    (circleTakes op ns s).reels = s.reels ∧ (circleTakes op ns s).cues = s.cues ∧
    (circleTakes op ns s).booths = s.booths ∧ (circleTakes op ns s).spans = s.spans ∧
    (circleTakes op ns s).link = s.link ∧ (circleTakes op ns s).lines = s.lines ∧
    (circleTakes op ns s).ctl = s.ctl ∧ (circleTakes op ns s).posted = s.posted ∧
    (circleTakes op ns s).free = s.free ∧ (circleTakes op ns s).pending = s.pending :=
  ⟨rfl, rfl, rfl, rfl, rfl, rfl, rfl, rfl, rfl, rfl, rfl, rfl⟩

@[simp] theorem frameFound_frame (s : State) :
    (frameFound s).chase = s.chase ∧ (frameFound s).stage = s.stage ∧ (frameFound s).reels = s.reels ∧
    (frameFound s).cues = s.cues ∧ (frameFound s).booths = s.booths ∧ (frameFound s).spans = s.spans ∧
    (frameFound s).log = s.log ∧ (frameFound s).link = s.link ∧ (frameFound s).lines = s.lines ∧
    (frameFound s).posted = s.posted ∧ (frameFound s).free = s.free ∧ (frameFound s).pending = s.pending :=
  ⟨rfl, rfl, rfl, rfl, rfl, rfl, rfl, rfl, rfl, rfl, rfl, rfl⟩

@[simp] theorem collecting_frame (bs : List Byte) (s : State) :
    (collecting bs s).chase = s.chase ∧ (collecting bs s).stage = s.stage ∧ (collecting bs s).reels = s.reels ∧
    (collecting bs s).cues = s.cues ∧ (collecting bs s).booths = s.booths ∧ (collecting bs s).spans = s.spans ∧
    (collecting bs s).log = s.log ∧ (collecting bs s).link = s.link ∧ (collecting bs s).lines = s.lines ∧
    (collecting bs s).posted = s.posted ∧ (collecting bs s).free = s.free ∧ (collecting bs s).pending = s.pending :=
  ⟨rfl, rfl, rfl, rfl, rfl, rfl, rfl, rfl, rfl, rfl, rfl, rfl⟩

@[simp] theorem releaseOutstanding_frame (s : State) :
    (releaseOutstanding s).chase = s.chase ∧ (releaseOutstanding s).stage = s.stage ∧
    (releaseOutstanding s).reels = s.reels ∧ (releaseOutstanding s).cues = s.cues ∧
    (releaseOutstanding s).booths = s.booths ∧ (releaseOutstanding s).spans = s.spans ∧
    (releaseOutstanding s).log = s.log ∧ (releaseOutstanding s).lines = s.lines ∧
    (releaseOutstanding s).ctl = s.ctl ∧ (releaseOutstanding s).posted = s.posted ∧
    (releaseOutstanding s).free = s.free ∧ (releaseOutstanding s).pending = s.pending :=
  ⟨rfl, rfl, rfl, rfl, rfl, rfl, rfl, rfl, rfl, rfl, rfl, rfl⟩

@[simp] theorem replied_frame (k : Byte) (t : Tag) (r : Reply) (s : State) :
    (replied k t r s).chase = s.chase ∧ (replied k t r s).stage = s.stage ∧ (replied k t r s).reels = s.reels ∧
    (replied k t r s).cues = s.cues ∧ (replied k t r s).booths = s.booths ∧ (replied k t r s).spans = s.spans ∧
    (replied k t r s).log = s.log ∧ (replied k t r s).link = s.link ∧ (replied k t r s).lines = s.lines ∧
    (replied k t r s).posted = s.posted ∧ (replied k t r s).free = s.free ∧ (replied k t r s).pending = s.pending :=
  ⟨rfl, rfl, rfl, rfl, rfl, rfl, rfl, rfl, rfl, rfl, rfl, rfl⟩

@[simp] theorem noticed_frame (k : NoticeClass) (n : Notice) (s : State) :
    (noticed k n s).chase = s.chase ∧ (noticed k n s).stage = s.stage ∧ (noticed k n s).reels = s.reels ∧
    (noticed k n s).cues = s.cues ∧ (noticed k n s).booths = s.booths ∧ (noticed k n s).spans = s.spans ∧
    (noticed k n s).log = s.log ∧ (noticed k n s).link = s.link ∧ (noticed k n s).lines = s.lines ∧
    (noticed k n s).posted = s.posted ∧ (noticed k n s).free = s.free ∧ (noticed k n s).pending = s.pending :=
  ⟨rfl, rfl, rfl, rfl, rfl, rfl, rfl, rfl, rfl, rfl, rfl, rfl⟩

/-! ## The field an update changes -/

@[simp] theorem post_posted (src : Source) (x : OutFrame) (s : State) :
    (post src x s).posted = s.posted ++ [⟨src, x⟩] := rfl

@[simp] theorem postNotice_posted (src : Source) (n : Notice) (s : State) :
    (postNotice src n s).posted = s.posted ++ [⟨src, noticeFrame n⟩] := rfl

@[simp] theorem modTake_records (n : Nat) (f : Take → Take) (s : State) :
    (modTake n f s).log.records = s.log.records.map (fun t => if t.serial = n then f t else t) := rfl

@[simp] theorem modTake_counter (n : Nat) (f : Take → Take) (s : State) :
    (modTake n f s).log.counter = s.log.counter ∧ (modTake n f s).log.bound = s.log.bound := ⟨rfl, rfl⟩

@[simp] theorem raiseStop_lists (o : OrderBody) (b : Option BoothId) (t c r : Option Nat) (s : State) :
    (raiseStop o b t c r s).link.flow = s.link.flow ∧ (raiseStop o b t c r s).link.startLane = s.link.startLane ∧
    (raiseStop o b t c r s).link.transmitter = s.link.transmitter ∧
    (raiseStop o b t c r s).link.awaiting = s.link.awaiting ∧
    (raiseStop o b t c r s).link.outstanding = s.link.outstanding := ⟨rfl, rfl, rfl, rfl, rfl⟩

@[simp] theorem frameFound_ctl (s : State) :
    (frameFound s).ctl = { s.ctl with receiver := .hunt, faultRun := false } := rfl

@[simp] theorem setLineTimers_get (t : Timer) (s : State) (b : BoothId) :
    ((setLineTimers t s).lines.get b).timer = t := by
  cases b <;> rfl

end Sys2Proof.Machine
end

