-- ==== Sys2Proof/Laws/Queue.lean ====
section
/-! SUPPORT. Laws/Queue.lean: what the outbound queue, the end of a command and the intake can do, said once: a proof
about a request cites these in place of unfolding `conclude` and `takeRequest`. -/

namespace Sys2Proof.Machine

/-! ## Placing (R179 to R181) -/

theorem placeReply_room {f : OutFrame} {c : Control} (h : c.queue.length < queuePlaces) :
    c.placeReply f = { c.append f with intake := if f.isRestartOk then .restarting else .idle } := by
  simp [Control.placeReply, h]

theorem placeReply_full {f : OutFrame} {c : Control} (h : queuePlaces ≤ c.queue.length) :
    c.placeReply f = { c with intake := .handling f } := by
  simp [Control.placeReply, Nat.not_lt.mpr h]

/-- A notice keeps the intake, the receiver and the enable set. -/
theorem placeNotice_keeps (k : NoticeClass) (f : OutFrame) (c : Control) :
    (c.placeNotice k f).intake = c.intake ∧ (c.placeNotice k f).receiver = c.receiver ∧
    (c.placeNotice k f).enabled = c.enabled ∧ (c.placeNotice k f).faultRun = c.faultRun ∧
    (c.placeNotice k f).resetCause = c.resetCause := by
  unfold Control.placeNotice Control.append Control.lose
  split
  · split <;> exact ⟨rfl, rfl, rfl, rfl, rfl⟩
  · exact ⟨rfl, rfl, rfl, rfl, rfl⟩

/-- A posted frame keeps the receiver, the enable set and the reset cause. -/
theorem placePosted_keeps (f : OutFrame) (c : Control) :
    (c.placePosted f).receiver = c.receiver ∧ (c.placePosted f).enabled = c.enabled ∧
    (c.placePosted f).faultRun = c.faultRun ∧ (c.placePosted f).resetCause = c.resetCause := by
  unfold Control.placePosted
  split
  · unfold Control.placeReply Control.append
    split <;> exact ⟨rfl, rfl, rfl, rfl⟩
  · unfold Control.placeBusy
    split
    · exact ⟨rfl, rfl, rfl, rfl⟩
    · split
      · exact ⟨rfl, rfl, rfl, rfl⟩
      · split
        · unfold Control.append Control.loseEnabled Control.lose
          split <;> exact ⟨rfl, rfl, rfl, rfl⟩
        · exact ⟨rfl, rfl, rfl, rfl⟩
  · split
    · exact ⟨(placeNotice_keeps _ _ _).2.1, (placeNotice_keeps _ _ _).2.2.1, (placeNotice_keeps _ _ _).2.2.2.1,
        (placeNotice_keeps _ _ _).2.2.2.2⟩
    · exact ⟨rfl, rfl, rfl, rfl⟩

/-- Posted frames keep the receiver, the enable set and the reset cause. -/
theorem placeAll_keeps (fs : List Post) (c : Control) :
    (c.placeAll fs).receiver = c.receiver ∧ (c.placeAll fs).enabled = c.enabled ∧
    (c.placeAll fs).faultRun = c.faultRun ∧ (c.placeAll fs).resetCause = c.resetCause := by
  induction fs generalizing c with
  | nil => exact ⟨rfl, rfl, rfl, rfl⟩
  | cons x rest ih =>
    have h := ih (c.placePosted x.frame)
    have p := placePosted_keeps x.frame c
    exact ⟨h.1.trans p.1, h.2.1.trans p.2.1, h.2.2.1.trans p.2.2.1, h.2.2.2.trans p.2.2.2⟩

/-! ## The end of a command (R160, R181) -/

/-- Reaching the queue changes the link controller, the posted frames and the free values' counter alone. -/
@[simp] theorem settle_frame (s : State) :
    (settle s).chase = s.chase ∧ (settle s).stage = s.stage ∧ (settle s).reels = s.reels ∧ (settle s).cues = s.cues ∧
    (settle s).booths = s.booths ∧ (settle s).spans = s.spans ∧ (settle s).log = s.log ∧ (settle s).link = s.link ∧
    (settle s).lines = s.lines ∧ (settle s).pending = s.pending ∧ (settle s).posted = [] := by
  unfold settle
  split <;> exact ⟨rfl, rfl, rfl, rfl, rfl, rfl, rfl, rfl, rfl, rfl, rfl⟩

/-- The end of a command changes neither the tables nor the booths, takes, lines or chase unit. -/
@[simp] theorem conclude_frame (s : State) :
    (conclude s).chase = s.chase ∧ (conclude s).stage = s.stage ∧ (conclude s).reels = s.reels ∧
    (conclude s).cues = s.cues ∧ (conclude s).booths = s.booths ∧ (conclude s).spans = s.spans ∧
    (conclude s).log = s.log ∧ (conclude s).lines = s.lines ∧ (conclude s).pending = s.pending ∧
    (conclude s).posted = [] := by
  simp [conclude]

/-- The end of a command changes the outstanding-start list of the link alone. -/
@[simp] theorem conclude_link (s : State) :
    (conclude s).link = { s.link with outstanding := s.link.outstanding.filter (stillOutstanding s) } := by
  simp only [conclude, settle_frame]
  rfl

/-- The end of a command keeps the receiver, the enable set and the reset cause. -/
theorem conclude_ctl_keeps (s : State) :
    (conclude s).ctl.receiver = s.ctl.receiver ∧ (conclude s).ctl.enabled = s.ctl.enabled ∧
    (conclude s).ctl.faultRun = s.ctl.faultRun ∧ (conclude s).ctl.resetCause = s.ctl.resetCause := by
  simp only [conclude, settle]
  split
  · exact placeAll_keeps _ _
  · exact placeAll_keeps _ _

/-- No outstanding start is released where each still may call for a stop. -/
theorem releaseOutstanding_eq {s : State} (h : ∀ o ∈ s.link.outstanding, stillOutstanding s o = true) :
    releaseOutstanding s = s := by
  have e : s.link.outstanding.filter (stillOutstanding s) = s.link.outstanding := List.filter_eq_self.mpr h
  simp only [releaseOutstanding, e]

/-- Whether an outstanding start still may call for a stop depends on the log, the booths and the stop lane alone. -/
theorem stillOutstanding_congr {s s' : State} (hl : s'.log.records = s.log.records) (hb : s'.booths = s.booths)
    (hs : s'.link.stopLane = s.link.stopLane) (o : Outstanding) : stillOutstanding s' o = stillOutstanding s o := by
  cases o <;> simp [stillOutstanding, takeIsLive, takeStateOf, findTake, State.booth, hl, hb, hs]

/-- Every command that ends with `conclude` leaves the part settled. -/
theorem conclude_settled (s : State) : Settled (conclude s) := by
  refine ⟨by simp, fun o ho => ?_⟩
  rw [conclude_link] at ho
  have h := (List.mem_filter.mp ho).2
  rw [← h]
  exact stillOutstanding_congr (by simp) (by simp) (by simp) o

/-- A settled part concludes with no change. -/
theorem conclude_nothing {s : State} (h : Settled s) : conclude s = s := by
  have e := h.1
  cases s
  simp only at e
  subst e
  simp [conclude, releaseOutstanding_eq h.2, settle, oneSource, Control.placeAll]

/-- One posted frame reaches the queue. -/
theorem conclude_one {s : State} {src : Source} {f : OutFrame} (h : s.posted = [⟨src, f⟩])
    (ho : ∀ o ∈ s.link.outstanding, stillOutstanding s o = true) :
    conclude s = { s with ctl := s.ctl.placePosted f, posted := [] } := by
  simp [conclude, releaseOutstanding_eq ho, settle, h, oneSource, Control.placeAll]

/-! ## The intake (R177, R187) -/

theorem takeRequest_idle {kind : Byte} {tag : Tag} {h : Handler} {s : State} (hi : s.ctl.intake = .idle) :
    takeRequest kind tag h s =
      conclude (post .intake (replyFrame kind tag (h (frameFound s)).2) (h (frameFound s)).1) := by
  unfold takeRequest
  simp only [frameFound_ctl, hi]

theorem takeRequest_handling {kind : Byte} {tag : Tag} {h : Handler} {s : State} {f : OutFrame}
    (hi : s.ctl.intake = .handling f) :
    takeRequest kind tag h s = conclude (post .intake (busyFrame kind tag) (frameFound s)) := by
  unfold takeRequest
  simp only [frameFound_ctl, hi]

theorem takeRequest_restarting {kind : Byte} {tag : Tag} {h : Handler} {s : State}
    (hi : s.ctl.intake = .restarting) : takeRequest kind tag h s = frameFound s := by
  unfold takeRequest
  simp only [frameFound_ctl, hi]

/-- A request whose handling posts nothing and keeps the link controller: its reply is placed at once (R180). -/
theorem takeRequest_replied {kind : Byte} {tag : Tag} {h : Handler} {s t : State} {r : Reply} (hc : CanReply s)
    (hh : h (frameFound s) = (t, r)) (hp : t.posted = []) (hctl : t.ctl = (frameFound s).ctl)
    (ho : ∀ o ∈ t.link.outstanding, stillOutstanding t o = true)
    (hr : (replyFrame kind tag r).isRestartOk = false) :
    takeRequest kind tag h s = replied kind tag r t := by
  have hq : t.ctl.queue.length < queuePlaces := by rw [hctl]; exact hc.2.1
  have hi : t.ctl.intake = .idle := by rw [hctl]; exact hc.1
  have e := conclude_one (s := post .intake (replyFrame kind tag r) t) (src := .intake) (f := replyFrame kind tag r)
    (by simp [hp]) (fun o hm => by
      rw [← ho o hm]; exact stillOutstanding_congr (by simp) (by simp) (by simp) o)
  have place : t.ctl.placePosted (replyFrame kind tag r) =
      { t.ctl with queue := t.ctl.queue ++ [replyFrame kind tag r] } := by
    have : t.ctl.placePosted (replyFrame kind tag r) = t.ctl.placeReply (replyFrame kind tag r) := rfl
    rw [this, placeReply_room hq, hr]
    simp [Control.append, hi]
  rw [takeRequest_idle hc.1, hh]
  simp only [] at e ⊢
  rw [e]
  have hx : (post .intake (replyFrame kind tag r) t).ctl = t.ctl := rfl
  rw [hx, place]
  simp only [replied, hctl, frameFound_ctl, post]
  cases t
  simp_all

end Sys2Proof.Machine
end

