-- ==== Sys2Proof/Laws/Window.lean ====
section
/-! SUPPORT. Laws/Window.lean: what the operations on a cue window and on a booth line do, in the terms of Safety.lean:
a proof about window events, closings and frames cites these in place of unfolding the operations. -/

namespace Sys2Proof.Machine

/-! ## Two updates of one booth or line -/

@[simp] theorem Quad.set_set {α : Type} (q : Quad α) (b : BoothId) (x y : α) : (q.set b x).set b y = q.set b y := by
  cases b <;> rfl

@[simp] theorem Quad.set_get {α : Type} (q : Quad α) (b : BoothId) : q.set b (q.get b) = q := by
  cases b <;> rfl

/-! ## Live entries (R88, R91, R92) -/

/-- A change of one live entry changes its booth's window and nothing else. -/
theorem modEntry_eq (b : BoothId) (cue : Nat) (f : LiveEntry → LiveEntry) (s : State) :
    modEntry b cue f s = { s with booths := entryChanged b cue f s } := rfl

/-- An event that becomes TAKEN or VOID changes its entry and nothing else (R91). -/
theorem markEvent_eq (b : BoothId) (cue : Nat) (k : EventKind) (st : EventState) (s : State) :
    markEvent b cue k st s = { s with booths := entryChanged b cue (marked k st) s } := rfl

/-- Two changes of one live entry are one change, when the first keeps its cue. -/
theorem modEntry_modEntry (b : BoothId) (cue : Nat) (f g : LiveEntry → LiveEntry) (s : State)
    (h : ∀ x, (f x).cueId = x.cueId) :
    modEntry b cue g (modEntry b cue f s) = modEntry b cue (fun x => g (f x)) s := by
  have e : ∀ x : LiveEntry,
      (if (if x.cueId = cue then f x else x).cueId = cue then g (if x.cueId = cue then f x else x)
        else if x.cueId = cue then f x else x) = if x.cueId = cue then g (f x) else x := by
    intro x
    by_cases hx : x.cueId = cue
    · simp [hx, h]
    · simp [hx]
  simp [modEntry, modBooth, List.map_map, Function.comp_def, e]

/-- An entry that leaves its window leaves it as R106, R108 and R154 say. -/
theorem leaveWindow_leaves (b : BoothId) (e : LiveEntry) (s : State) : LeavesWindow b e s (leaveWindow b e s) := by
  have h : ∀ a : Awaiting, Awaiting.arm s.stage.rate { a with order := a.order.markReached (e.owns b) } =
      { a with
        order := reachedFor b e a.order
        timer := if a.stage = .running ∧ a.sendEnded = true ∧ (reachedFor b e a.order).reached = true ∧
            a.timer = .stopped then .running (2 * 8) s.stage.rate else a.timer } := by
    intro a
    unfold Awaiting.arm
    split
    · next k => exact congrArg (fun t => { a with order := reachedFor b e a.order, timer := t }) (if_pos k).symm
    · next k => exact congrArg (fun t => { a with order := reachedFor b e a.order, timer := t }) (if_neg k).symm
  simp only [LeavesWindow, leaveWindow, reportReached, modBooth, h]
  rfl

/-! ## Starts (R148) -/

/-- A start admitted to the lane enters it at its end, with its tag. -/
theorem admitStart_enters (b : BoothId) (e : LiveEntry) (body : OrderBody) (p : Nat) (s : State) :
    EntersLane b e body p s (admitStart b e body p s) := rfl

/-! ## Positions as they are sent (R2, R7) -/

/-- A position as it is sent lies below the frames per day. -/
theorem sentPos_lt (rate : StageRate) (p : Int) : sentPos rate p < rate.perDay := by
  have h : (0 : Int) < (rate.perDay : Int) := by cases rate <;> decide
  have l := Int.emod_lt_of_pos p h
  have n := Int.emod_nonneg p (Int.ne_of_gt h)
  unfold sentPos
  omega

/-- A position of the day is sent as it is. -/
theorem sentPos_of_lt {rate : StageRate} {p : Nat} (h : p < rate.perDay) : sentPos rate p = p := by
  rw [sentPos, Int.emod_eq_of_lt (Int.natCast_nonneg p) (Int.ofNat_lt.mpr h), Int.toNat_natCast]

/-! ## Lines (R169, R170) -/

/-- A frame that falls due on a line is offered to it, and no other line changes. -/
theorem frameDue_offers (b : BoothId) (pos : Option Nat) (s : State) :
    LineOffered b (frameContent b pos s) s (frameDue b pos s) ∧
    ∀ c, c ≠ b → (frameDue b pos s).lines.get c = s.lines.get c := by
  refine ⟨?_, fun c h => Quad.get_set_other _ _ h⟩
  simp only [LineOffered, offered, frameDue, modLine, Quad.get_set_same, Line.offer]
  split <;> simp_all [Line.send]

end Sys2Proof.Machine
end

