-- ==== Sys2Proof/Laws/Work.lean ====
section
/-! SUPPORT. Laws/Work.lean: what the work of the booth controllers, the takes and the recorder link never touches, said
once for each shared operation, so that a proof about an event cites one lemma in place of unfolding the operations. -/

namespace Sys2Proof.Machine

/-! ## The relation -/

/-- What the work of booths, takes and link leaves: the chase unit, the stage settings, the reels, the link controller,
the waiting commands, the read cursor, the recorder's flow, the host's fields and the reel of every cue, and every
booth's settings and filter. -/
structure Within (s t : State) : Prop where
  chase : t.chase = s.chase
  stage : t.stage = s.stage
  reels : t.reels = s.reels
  ctl : t.ctl = s.ctl
  pending : t.pending = s.pending
  bound : t.log.bound = s.log.bound
  flow : t.link.flow = s.link.flow
  cues : t.cues.map (fun c => (c.fields, c.reel)) = s.cues.map (fun c => (c.fields, c.reel))
  booths : ∀ b, (t.booth b).settings = (s.booth b).settings ∧ (t.booth b).filter = (s.booth b).filter

theorem Within.refl (s : State) : Within s s := ⟨rfl, rfl, rfl, rfl, rfl, rfl, rfl, rfl, fun _ => ⟨rfl, rfl⟩⟩

theorem Within.trans {s t u : State} (h : Within s t) (k : Within t u) : Within s u :=
  ⟨k.chase.trans h.chase, k.stage.trans h.stage, k.reels.trans h.reels, k.ctl.trans h.ctl, k.pending.trans h.pending,
   k.bound.trans h.bound, k.flow.trans h.flow, k.cues.trans h.cues,
   fun b => ⟨(k.booths b).1.trans (h.booths b).1, (k.booths b).2.trans (h.booths b).2⟩⟩

/-- A condition chooses between two states that both stay within. -/
theorem Within.ite {s t u : State} {p : Prop} [Decidable p] (h : Within s t) (k : Within s u) :
    Within s (if p then t else u) := by
  split <;> assumption

/-! ## Booths and cues -/

theorem modBooth_within (b : BoothId) (f : Booth → Booth) (s : State)
    (h : ∀ v, (f v).settings = v.settings ∧ (f v).filter = v.filter) : Within s (modBooth b f s) := by
  refine ⟨rfl, rfl, rfl, rfl, rfl, rfl, rfl, rfl, fun c => ?_⟩
  by_cases e : c = b
  · subst e
    rw [modBooth_same]
    exact h _
  · rw [modBooth_other _ _ _ _ e]
    exact ⟨rfl, rfl⟩

theorem modActive_within (b : BoothId) (f : Context → Context) (s : State) : Within s (modActive b f s) :=
  modBooth_within b _ s fun _ => ⟨rfl, rfl⟩

theorem modEntry_within (b : BoothId) (c : Nat) (f : LiveEntry → LiveEntry) (s : State) : Within s (modEntry b c f s) :=
  modBooth_within b _ s fun _ => ⟨rfl, rfl⟩

theorem modCues_within (ids : List Nat) (f : Cue → Cue) (s : State)
    (h : ∀ c, (f c).fields = c.fields ∧ (f c).reel = c.reel) : Within s (modCues ids f s) := by
  refine ⟨rfl, rfl, rfl, rfl, rfl, rfl, rfl, ?_, fun _ => ⟨rfl, rfl⟩⟩
  simp only [modCues, List.map_map]
  refine List.map_congr_left fun c _ => ?_
  simp only [Function.comp_apply]
  split
  · rw [(h c).1, (h c).2]
  · rfl

theorem clearActive_keeps (b : BoothId) (c : Cue) : (c.clearActive b).fields = c.fields ∧ (c.clearActive b).reel = c.reel := by
  unfold Cue.clearActive
  repeat' split
  all_goals exact ⟨rfl, rfl⟩

theorem stagedToActive_keeps (b : BoothId) (c : Cue) :
    (c.stagedToActive b).fields = c.fields ∧ (c.stagedToActive b).reel = c.reel := ⟨rfl, rfl⟩

/-! ## Posting, takes and spans -/

theorem postNotice_within (src : Source) (n : Notice) (s : State) : Within s (postNotice src n s) :=
  ⟨rfl, rfl, rfl, rfl, rfl, rfl, rfl, rfl, fun _ => ⟨rfl, rfl⟩⟩

theorem modTake_within (n : Nat) (f : Take → Take) (s : State) : Within s (modTake n f s) :=
  ⟨rfl, rfl, rfl, rfl, rfl, rfl, rfl, rfl, fun _ => ⟨rfl, rfl⟩⟩

theorem releaseSpan_within (n : Nat) (s : State) : Within s (releaseSpan n s) :=
  ⟨rfl, rfl, rfl, rfl, rfl, rfl, rfl, rfl, fun _ => ⟨rfl, rfl⟩⟩

theorem shrinkSpan_within (n stop : Nat) (s : State) : Within s (shrinkSpan n stop s) :=
  ⟨rfl, rfl, rfl, rfl, rfl, rfl, rfl, rfl, fun _ => ⟨rfl, rfl⟩⟩

theorem noteTake_within (k : TakeNoticeKind) (n : Nat) (s : State) : Within s (noteTake k n s) := by
  unfold noteTake
  split
  · exact postNotice_within _ _ _
  · exact .refl s

theorem endTake_within (n : Nat) (st : TakeState) (r : Option FailReason) (s : State) : Within s (endTake n st r s) :=
  ((modTake_within n _ s).trans (releaseSpan_within n _)).trans (noteTake_within _ _ _)

theorem failTake_within (n : Nat) (r : FailReason) (s : State) : Within s (failTake n r s) := by
  unfold failTake
  split
  · exact .ite (endTake_within _ _ _ _) (.refl s)
  · exact .refl s

theorem openTake_within (n : Nat) (s : State) : Within s (openTake n s) := modTake_within _ _ _

theorem keepTake_within (n : Nat) (s : State) : Within s (keepTake n s) :=
  (modTake_within _ _ _).trans (noteTake_within _ _ _)

theorem withdrawTake_within (n c : Nat) (s : State) : Within s (withdrawTake n c s) := modTake_within _ _ _

theorem truncateTake_within (n : Nat) (c : Option Nat) (s : State) : Within s (truncateTake n c s) := by
  unfold truncateTake
  split
  · exact .refl s
  · split
    · exact ((modTake_within _ _ _).trans (shrinkSpan_within _ _ _)).trans (noteTake_within _ _ _)
    · exact (modTake_within _ _ _).trans (noteTake_within _ _ _)

theorem writeAnswer_within (n : Nat) (f : Take → Take) (w : Take → Bool) (s : State) :
    Within s (writeAnswer n f w s) := by
  unfold writeAnswer
  split
  · exact .refl s
  · exact .ite (.ite (modTake_within _ _ _) ((modTake_within _ _ _).trans (noteTake_within _ _ _))) (.refl s)

/-! ## The recorder link -/

theorem raiseStop_within (o : OrderBody) (b : Option BoothId) (t c r : Option Nat) (s : State) :
    Within s (raiseStop o b t c r s) := ⟨rfl, rfl, rfl, rfl, rfl, rfl, rfl, rfl, fun _ => ⟨rfl, rfl⟩⟩

theorem enterStart_within (o : OrderBody) (b : BoothId) (t c : Option Nat) (p : Nat) (s : State) :
    Within s (enterStart o b t c p s) := ⟨rfl, rfl, rfl, rfl, rfl, rfl, rfl, rfl, fun _ => ⟨rfl, rfl⟩⟩

theorem withdrawStarts_within (p : Order → Bool) (s : State) : Within s (withdrawStarts p s) :=
  ⟨rfl, rfl, rfl, rfl, rfl, rfl, rfl, rfl, fun _ => ⟨rfl, rfl⟩⟩

theorem removeStops_within (p : Order → Bool) (s : State) : Within s (removeStops p s) :=
  ⟨rfl, rfl, rfl, rfl, rfl, rfl, rfl, rfl, fun _ => ⟨rfl, rfl⟩⟩

theorem reportReached_within (p : Order → Bool) (s : State) : Within s (reportReached p s) :=
  ⟨rfl, rfl, rfl, rfl, rfl, rfl, rfl, rfl, fun _ => ⟨rfl, rfl⟩⟩

theorem removeAwaiting_within (t : Tag) (s : State) : Within s (removeAwaiting t s) :=
  ⟨rfl, rfl, rfl, rfl, rfl, rfl, rfl, rfl, fun _ => ⟨rfl, rfl⟩⟩

/-- The beginning of a transmission keeps the flow and the tag counter. -/
theorem beginLink_keeps (l : RecLink) : (beginLink l).flow = l.flow ∧ (beginLink l).tagCounter = l.tagCounter := by
  unfold beginLink
  repeat' split
  all_goals exact ⟨rfl, rfl⟩

theorem beginSending_within (s : State) : Within s (beginSending s) :=
  ⟨rfl, rfl, rfl, rfl, rfl, rfl, (beginLink_keeps _).1, rfl, fun _ => ⟨rfl, rfl⟩⟩

theorem frameDue_within (b : BoothId) (p : Option Nat) (s : State) : Within s (frameDue b p s) :=
  ⟨rfl, rfl, rfl, rfl, rfl, rfl, rfl, rfl, fun _ => ⟨rfl, rfl⟩⟩

/-! ## Booth states and cut-overs (R75, R85) -/

theorem enterState_within (b : BoothId) (n : BoothState) (c : BoothCause) (s : State) : Within s (enterState b n c s) :=
  Within.trans (modBooth_within b (fun v => { v with state := n }) s fun _ => ⟨rfl, rfl⟩) (postNotice_within _ _ _)

theorem carryOutCutover_within (b : BoothId) (s : State) : Within s (carryOutCutover b s) := by
  unfold carryOutCutover
  dsimp only
  split
  · exact .refl s
  · have h := (((modCues_within (passCues (s.booth b).active) _ s (clearActive_keeps b)).trans
      (modCues_within (passCues (s.booth b).staged) _ _ (stagedToActive_keeps b))).trans
      (modBooth_within b (fun v => { v with active := some (‹Context›).fresh, staged := none, cutPending := false }) _
        fun _ => ⟨rfl, rfl⟩)).trans
      (postNotice_within (.booth b) (.cutover b (‹Context›).entries.length (s.booth b).cutPending) _)
    exact .ite (h.trans (enterState_within _ _ _ _)) h

theorem carryPending_within (b : BoothId) (s : State) : Within s (carryPending b s) :=
  .ite (carryOutCutover_within b s) (.refl s)

theorem leaveTo_within (b : BoothId) (n : BoothState) (c : BoothCause) (s : State) : Within s (leaveTo b n c s) :=
  (enterState_within b n c s).trans (carryPending_within b _)

theorem runOut_within (b : BoothId) (p : Nat) (s : State) : Within s (runOut b p s) := by
  unfold runOut
  dsimp only
  split
  · exact .ite (leaveTo_within _ _ _ _) (.refl s)
  · exact .refl s

theorem leaveRoll_within (b : BoothId) (s : State) : Within s (leaveRoll b s) := by
  unfold leaveRoll
  split
  case h_1 => exact leaveTo_within _ _ _ _
  case h_2 => exact leaveTo_within _ _ _ _
  all_goals exact .refl s

/-! ## The cue window (R76, R103, R106, R108) -/

theorem leaveWindow_within (b : BoothId) (e : LiveEntry) (s : State) : Within s (leaveWindow b e s) :=
  Within.trans
    (modBooth_within b (fun v => { v with
      window := v.window.filter fun x => decide (x.cueId ≠ e.cueId)
      active := v.active.map (setEntryLive e.cueId false) }) s fun _ => ⟨rfl, rfl⟩)
    (reportReached_within _ _)

theorem removeFromPass_within (b : BoothId) (c : Nat) (s : State) : Within s (removeFromPass b c s) :=
  (modActive_within b _ s).trans (modCues_within _ _ _ (clearActive_keeps b))

theorem endEntry_within (b : BoothId) (e : LiveEntry) (s : State) : Within s (endEntry b e s) := by
  unfold endEntry
  have left : ∀ u, Within s u → Within s (leaveWindow b e u) := fun u h => h.trans (leaveWindow_within b e u)
  split
  · split
    · exact .ite ((left _ (withdrawStarts_within _ s)).trans (removeFromPass_within _ _ _))
        (left _ (withdrawStarts_within _ s))
    · exact left _ (withdrawStarts_within _ s)
  · split
    · exact .ite ((left _ (.refl s)).trans (removeFromPass_within _ _ _)) (left _ (.refl s))
    · exact left _ (.refl s)

theorem completeIfEmpty_within (b : BoothId) (s : State) : Within s (completeIfEmpty b s) :=
  .ite (leaveTo_within _ _ _ _) (.refl s)

theorem closePlanned_within (b : BoothId) (e : LiveEntry) (n c : Nat) (r : Option Nat) (s : State) :
    Within s (closePlanned b e n c r s) := by
  unfold closePlanned
  split
  · exact (withdrawStarts_within _ s).trans (failTake_within _ _ _)
  · split
    · exact (raiseStop_within _ _ _ _ _ s).trans (withdrawTake_within _ _ _)
    · exact failTake_within _ _ _

theorem closeTakeOf_within (b : BoothId) (e : LiveEntry) (c : Nat) (r : Option Nat) (s : State) :
    Within s (closeTakeOf b e c r s) := by
  unfold closeTakeOf
  split
  · exact .refl s
  · have h := removeStops_within (Order.isPunchOutOf (‹HeldTake›).serial) s
    dsimp only
    split
    · exact h
    · split
      · exact (h.trans (raiseStop_within _ _ _ _ _ _)).trans (truncateTake_within _ _ _)
      · exact h.trans (closePlanned_within _ _ _ _ _ _)
      all_goals exact h

theorem closePlayOf_within (b : BoothId) (e : LiveEntry) (r : Option Nat) (s : State) :
    Within s (closePlayOf b e r s) := by
  unfold closePlayOf
  split
  · exact .ite (withdrawStarts_within _ s) (raiseStop_within _ _ _ _ _ s)
  · exact .refl s

theorem closeEntry_within (b : BoothId) (c : Nat) (r : Option Nat) (e : LiveEntry) (s : State) :
    Within s (closeEntry b c r e s) :=
  ((closeTakeOf_within b e c r s).trans (closePlayOf_within _ _ _ _)).trans (leaveWindow_within _ _ _)

/-- Entries closed one after another stay within. -/
theorem foldl_within {α : Type} (f : State → α → State) (h : ∀ s x, Within s (f s x)) (xs : List α) (s : State) :
    Within s (xs.foldl f s) := by
  induction xs generalizing s with
  | nil => exact .refl s
  | cons x rest ih => exact (h s x).trans (ih _)

theorem closeWindow_within (b : BoothId) (c : Nat) (r : Option Nat) (s : State) : Within s (closeWindow b c r s) :=
  foldl_within _ (fun _ _ => closeEntry_within _ _ _ _ _) _ _

theorem takeLost_within (b : BoothId) (c : Nat) (s : State) : Within s (takeLost b c s) := modEntry_within _ _ _ _

theorem finishStopping_within (b : BoothId) (e : LiveEntry) (s : State) : Within s (finishStopping b e s) :=
  (endEntry_within b e s).trans (leaveTo_within _ _ _ _)

theorem startRefused_within (b : BoothId) (e : LiveEntry) (p : Nat) (s : State) : Within s (startRefused b e p s) := by
  unfold startRefused
  split
  · exact ((failTake_within _ _ s).trans (leaveWindow_within _ _ _)).trans (postNotice_within _ _ _)
  · exact (leaveWindow_within _ _ _).trans (postNotice_within _ _ _)

/-! ## Starts and window events (R92, R100 to R106, R148) -/

theorem admitStart_within (b : BoothId) (e : LiveEntry) (o : OrderBody) (p : Nat) (s : State) :
    Within s (admitStart b e o p s) :=
  (enterStart_within _ _ _ _ _ s).trans (modEntry_within _ _ _ _)

theorem displace_within (o : Order) (p : Nat) (s : State) : Within s (displace o p s) := by
  unfold displace
  dsimp only
  have h := withdrawStarts_within (fun x => decide (x.tag = o.tag)) s
  split
  · exact h
  · split
    · exact h.trans (startRefused_within _ _ _ _)
    · exact h

theorem raiseStart_within (b : BoothId) (e : LiveEntry) (o : OrderBody) (p : Nat) (s : State) :
    Within s (raiseStart b e o p s) := by
  unfold raiseStart
  split
  · exact admitStart_within _ _ _ _ _
  · split
    · exact (displace_within _ _ _).trans (admitStart_within _ _ _ _ _)
    · exact startRefused_within _ _ _ _

theorem markEvent_within (b : BoothId) (c : Nat) (k : EventKind) (st : EventState) (s : State) :
    Within s (markEvent b c k st s) := modEntry_within _ _ _ _

theorem displayTaken_within (b : BoothId) (e : LiveEntry) (g : Gate) (v : Bool) (s : State) :
    Within s (displayTaken b e g v s) := modEntry_within _ _ _ _

theorem lateIn_within (b : BoothId) (e : LiveEntry) (n : Nat) (s : State) : Within s (lateIn b e n s) :=
  ((withdrawStarts_within _ s).trans (failTake_within _ _ _)).trans (takeLost_within _ _ _)

theorem punchInTaken_within (b : BoothId) (e : LiveEntry) (p : Nat) (locked : Bool) (s : State) :
    Within s (punchInTaken b e p locked s) := by
  unfold punchInTaken
  split
  · exact markEvent_within _ _ _ _ _
  · split
    · exact markEvent_within _ _ _ _ _
    · have h := markEvent_within b e.cueId .punchIn .taken s
      exact .ite (.ite (h.trans (raiseStart_within _ _ _ _ _))
        ((h.trans (failTake_within _ _ _)).trans (takeLost_within _ _ _))) (markEvent_within _ _ _ _ _)

theorem openTaken_within (b : BoothId) (e : LiveEntry) (s : State) : Within s (openTaken b e s) := by
  unfold openTaken
  split
  · exact markEvent_within _ _ _ _ _
  · have h := markEvent_within b e.cueId .opening .taken s
    exact .ite (.ite (h.trans (lateIn_within _ _ _ _)) (h.trans (openTake_within _ _))) (markEvent_within _ _ _ _ _)

theorem raisePunchOut_within (b : BoothId) (e : LiveEntry) (t : Take) (p : Nat) (s : State) :
    Within s (raisePunchOut b e t p s) := (raiseStop_within _ _ _ _ _ s).trans (modEntry_within _ _ _ _)

theorem punchOutTaken_within (b : BoothId) (e : LiveEntry) (p : Nat) (s : State) :
    Within s (punchOutTaken b e p s) := by
  unfold punchOutTaken
  split
  · exact markEvent_within _ _ _ _ _
  · split
    · exact markEvent_within _ _ _ _ _
    · have h := markEvent_within b e.cueId .punchOut .taken s
      exact .ite (h.trans (raisePunchOut_within _ _ _ _ _))
        (.ite (.ite (h.trans (lateIn_within _ _ _ _)) (h.trans (raisePunchOut_within _ _ _ _ _)))
          (markEvent_within _ _ _ _ _))

theorem playTaken_within (b : BoothId) (e : LiveEntry) (p : Nat) (s : State) : Within s (playTaken b e p s) := by
  unfold playTaken
  split
  · exact markEvent_within _ _ _ _ _
  · exact (markEvent_within _ _ _ _ s).trans (raiseStart_within _ _ _ _ _)

theorem limitReached_within (b : BoothId) (e : LiveEntry) (p : Nat) (s : State) : Within s (limitReached b e p s) :=
  ((endEntry_within b e s).trans (closeWindow_within _ _ _ _)).trans (leaveTo_within _ _ _ _)

theorem afterClose_within (b : BoothId) (e : LiveEntry) (p : Nat) (s : State) : Within s (afterClose b e p s) := by
  unfold afterClose
  split
  · exact finishStopping_within _ _ _
  · exact .ite (limitReached_within _ _ _ _) (.refl s)
  · exact .refl s

theorem closeTaken_within (b : BoothId) (e : LiveEntry) (p : Nat) (s : State) : Within s (closeTaken b e p s) := by
  unfold closeTaken
  split
  · exact markEvent_within _ _ _ _ _
  · exact .ite ((((markEvent_within _ _ _ _ s).trans (keepTake_within _ _)).trans (modActive_within _ _ _)).trans
      (afterClose_within _ _ _ _)) (markEvent_within _ _ _ _ _)

theorem endTaken_within (b : BoothId) (e : LiveEntry) (s : State) : Within s (endTaken b e s) :=
  (endEntry_within b e s).trans (completeIfEmpty_within _ _)

/-- Every window event. -/
theorem eventTaken_within (b : BoothId) (e : LiveEntry) (k : EventKind) (p : Nat) (locked : Bool) (s : State) :
    Within s (eventTaken b e k p locked s) := by
  cases k
  case punchIn => exact punchInTaken_within _ _ _ _ _
  case opening => exact openTaken_within _ _ _
  case punchOut => exact punchOutTaken_within _ _ _ _
  case closing => exact closeTaken_within _ _ _ _
  case play => exact playTaken_within _ _ _ _
  case ending => exact endTaken_within _ _ _
  all_goals exact (markEvent_within _ _ _ _ s).trans (displayTaken_within _ _ _ _ _)

theorem takeEvent_within (b : BoothId) (p : Nat) (locked : Bool) (c : Nat) (k : EventKind) (s : State) :
    Within s (takeEvent b p locked c k s) := by
  unfold takeEvent
  split
  · exact .ite (eventTaken_within _ _ _ _ _ _) (.refl s)
  · exact .refl s

/-! ## Claims and admissions (R94 to R98, R116 to R118) -/

theorem createTake_within (c : Claim) (track number : Nat) (s : State) : Within s (createTake c track number s) := by
  have h : Within s
      { s with
        spans := insertSpan { track := track, start := c.start, stop := c.stop, serial := s.log.counter } s.spans
        log := { s.log with records := evict s.log.records ++ [plannedTake c track s.log.counter number],
                            counter := s.log.counter + 1 } } :=
    ⟨rfl, rfl, rfl, rfl, rfl, rfl, rfl, rfl, fun _ => ⟨rfl, rfl⟩⟩
  exact (h.trans (modCues_within [c.cue] (fun q => { q with nextTake := q.nextTake + 1 }) _ fun _ => ⟨rfl, rfl⟩)).trans
    (modActive_within _ _ _)

theorem takeClaim_within (c : Claim) (n : Nat) (s : State) : Within s (takeClaim c n s).2 := by
  unfold takeClaim
  split
  · exact .refl s
  · split
    · exact .refl s
    · split
      · exact createTake_within _ _ _ _
      · split
        · exact .refl s
        · have h : ∀ m, Within s (overwrite m s) := fun _ => endTake_within _ _ _ s
          dsimp only
          split
          · exact (h _).trans (createTake_within _ _ _ _)
          · exact h _

theorem stepOver_within (b : BoothId) (c : Nat) (r : StepReason) (p : Nat) (s : State) : Within s (stepOver b c r p s) :=
  (postNotice_within _ _ s).trans (modActive_within _ _ _)

theorem placeEntry_within (b : BoothId) (e : LiveEntry) (s : State) : Within s (placeEntry b e s) :=
  Within.trans (modBooth_within b (fun v => { v with window := insertEntry e v.window }) s fun _ => ⟨rfl, rfl⟩)
    (modActive_within _ _ _)

theorem admitEntry_within (b : BoothId) (q : Cue) (m : Mode) (v : Snapshot) (x : Option Played) (p : Nat) (l : Bool)
    (s : State) : Within s (admitEntry b q m v x p l s).2 := by
  unfold admitEntry
  have h := takeClaim_within (claimOf b q.fields.id v) q.nextTake s
  split
  · split
    · next r u e =>
      rw [e] at h
      exact h.trans (stepOver_within _ _ _ _ _)
    · next t u e =>
      rw [e] at h
      exact h.trans (placeEntry_within _ _ _)
  all_goals exact placeEntry_within _ _ _

theorem considerFree_within (b : BoothId) (q : Cue) (ctx : Context) (p : Nat) (l : Bool) (s : State) :
    Within s (considerFree b q ctx p l s).2 := by
  unfold considerFree
  dsimp only
  split
  · exact stepOver_within _ _ _ _ _
  · split
    · exact stepOver_within _ _ _ _ _
    · split
      · exact stepOver_within _ _ _ _ _
      · split
        · exact admitEntry_within _ _ _ _ _ _ _ _
        · exact .refl s

theorem considerHeld_within (b : BoothId) (q : Cue) (ctx : Context) (p : Nat) (l : Bool) (s : State) :
    Within s (considerHeld b q ctx p l s).2 := by
  unfold considerHeld
  split
  · split
    · exact stepOver_within _ _ _ _ _
    · exact .refl s
  · exact .refl s

theorem consider_within (b : BoothId) (p : Nat) (l : Bool) (s : State) : Within s (consider b p l s).2 := by
  unfold consider
  dsimp only
  split
  · split
    · exact .refl s
    · split
      · exact .refl s
      · split
        · exact considerFree_within _ _ _ _ _ _
        · exact considerHeld_within _ _ _ _ _ _
  · exact .refl s

/-! ## Announcements (R69 to R72, R119) -/

theorem readyAdvance_within (b : BoothId) (p : Nat) (l : Bool) (s : State) : Within s (readyAdvance b p l s).2 := by
  unfold readyAdvance
  split
  · exact .refl s
  · dsimp only
    split
    · exact (modActive_within _ _ s).trans (enterState_within _ _ _ _)
    · exact modActive_within _ _ s

theorem boothAdvance_within (b : BoothId) (p : Nat) (l : Bool) (s : State) : Within s (boothAdvance b p l s).2 := by
  have h : Within s (modBooth b (fun v => { v with lastTaken := some p }) s) :=
    modBooth_within b _ s fun _ => ⟨rfl, rfl⟩
  unfold boothAdvance
  dsimp only
  split
  · split
    · exact h.trans (readyAdvance_within _ _ _ _)
    · exact h
  all_goals exact h

theorem breakClose_within (b : BoothId) (last c : Nat) (s : State) : Within s (breakClose b last c s) := by
  unfold breakClose
  split
  · exact closeEntry_within _ _ _ _ _
  · exact .refl s

/-- Every piece of a booth's work. -/
theorem runTask_within (b : BoothId) (t : Task) (s : State) : Within s (runTask b t s).2 := by
  cases t
  case takeAdvance p l => exact boothAdvance_within _ _ _ _
  case takeBreak last => exact .refl s
  case event p l c k => exact takeEvent_within _ _ _ _ _ _
  case admission p l => exact consider_within _ _ _ _
  case report p => exact reportReached_within _ _
  case runOut p => exact runOut_within _ _ _
  case close last c => exact breakClose_within _ _ _ _
  case leaveRoll => exact leaveRoll_within _ _
  case frame pos => exact frameDue_within _ _ _

theorem finishWork_within (b : BoothId) (n : Nat) (ts : List Task) (s : State) : Within s (finishWork b n ts s) := by
  induction n generalizing ts s with
  | zero => exact .refl s
  | succ n ih =>
    cases ts with
    | nil => exact .refl s
    | cons t rest => exact (runTask_within b t s).trans (ih _ _)

/-- The work on an announcement in every order that a schedule may pick. -/
theorem interleave_within (sched : List Agent) (work : Quad (List Task)) (s : State) :
    Within s (interleave sched work s) := by
  induction sched generalizing work s with
  | nil =>
    exact (((finishWork_within _ _ _ s).trans (finishWork_within _ _ _ _)).trans (finishWork_within _ _ _ _)).trans
      (finishWork_within _ _ _ _)
  | cons a rest ih =>
    cases a with
    | link => exact (beginSending_within s).trans (ih _ _)
    | booth b =>
      unfold interleave
      split
      · exact ih _ _
      · exact (runTask_within b _ s).trans (ih _ _)

/-- The work on an announcement and the frames that fall due with it. -/
theorem handOut_within (a : Option Announcement) (f : Option (Option Nat)) (s : State) : Within s (handOut a f s) := by
  have h : Within s { s with free := s.free + 1 } := ⟨rfl, rfl, rfl, rfl, rfl, rfl, rfl, rfl, fun _ => ⟨rfl, rfl⟩⟩
  unfold handOut
  dsimp only
  split
  · split
    · exact h.trans (interleave_within _ _ _)
    · exact interleave_within _ _ _
  · exact interleave_within _ _ _

/-! ## Answers, expiries and transmissions (R110, R151, R155 to R158) -/

theorem onTake_within (take : Option Nat) (f : Nat → State → State) (s : State) (h : ∀ n, Within s (f n s)) :
    Within s (onTake take f s) := by
  unfold onTake
  split
  · exact h _
  · exact .refl s

theorem cancelUnconfirmed_within (n : Nat) (s : State) : Within s (cancelUnconfirmed n s) := by
  unfold cancelUnconfirmed
  split
  · exact .refl s
  · exact .ite ((raiseStop_within _ _ _ _ _ s).trans (truncateTake_within _ _ _)) (.refl s)

theorem boothLosesTake_within (b : BoothId) (n : Nat) (s : State) : Within s (boothLosesTake b n s) := by
  unfold boothLosesTake
  split
  · exact .refl s
  · exact .ite (finishStopping_within _ _ _) (takeLost_within _ _ _)

theorem punchInRefused_within (n : Nat) (s : State) : Within s (punchInRefused n s) := by
  unfold punchInRefused
  split
  · exact .refl s
  · exact .ite ((failTake_within _ _ s).trans (boothLosesTake_within _ _ _)) (.refl s)

theorem doneEffect_within (o : Order) (actual : Nat) (s : State) : Within s (doneEffect o actual s) := by
  unfold doneEffect
  split
  · exact onTake_within _ _ _ fun _ => writeAnswer_within _ _ _ _
  · exact onTake_within _ _ _ fun _ => writeAnswer_within _ _ _ _
  · exact onTake_within _ _ _ fun _ => writeAnswer_within _ _ _ _
  · exact (removeAwaiting_within _ s).trans
      (onTake_within _ _ _ fun _ => .ite (endTake_within _ _ _ _) (.refl _))
  · exact .refl s
  · exact .refl s

theorem refusedEffect_within (o : Order) (s : State) : Within s (refusedEffect o s) := by
  unfold refusedEffect
  split
  · exact onTake_within _ _ _ fun _ => punchInRefused_within _ _
  · exact onTake_within _ _ _ fun _ => writeAnswer_within _ _ _ _
  · exact onTake_within _ _ _ fun _ => writeAnswer_within _ _ _ _
  · exact onTake_within _ _ _ fun _ => cancelUnconfirmed_within _ _
  · exact .refl s
  · exact .refl s

theorem expiryEffect_within (o : Order) (s : State) : Within s (expiryEffect o s) := by
  unfold expiryEffect
  split
  · exact onTake_within _ _ _ fun _ => writeAnswer_within _ _ _ _
  · exact onTake_within _ _ _ fun _ => writeAnswer_within _ _ _ _
  · exact onTake_within _ _ _ fun _ => writeAnswer_within _ _ _ _
  · exact onTake_within _ _ _ fun _ => cancelUnconfirmed_within _ _
  · exact .refl s
  · exact .refl s

theorem doneArrives_within (tag : Tag) (actual : Word32) (s : State) : Within s (doneArrives tag actual s) := by
  unfold doneArrives
  split
  · exact postNotice_within _ _ _
  · split
    · exact postNotice_within _ _ _
    · exact (removeAwaiting_within _ s).trans (doneEffect_within _ _ _)

theorem refusedArrives_within (tag : Tag) (r : RefusedReason) (s : State) : Within s (refusedArrives tag r s) := by
  unfold refusedArrives
  split
  · exact postNotice_within _ _ _
  · exact ((removeAwaiting_within _ s).trans (postNotice_within _ _ _)).trans (refusedEffect_within _ _)

theorem awaitingExpires_within (tag : Tag) (s : State) : Within s (awaitingExpires tag s) := by
  have h : Within s (expireAwaiting tag s) := ⟨rfl, rfl, rfl, rfl, rfl, rfl, rfl, rfl, fun _ => ⟨rfl, rfl⟩⟩
  unfold awaitingExpires
  split
  · exact .refl s
  · exact .ite ((h.trans (postNotice_within _ _ _)).trans (expiryEffect_within _ _)) (.refl s)

theorem transmissionEnds_within (s : State) : Within s (transmissionEnds s) := by
  unfold transmissionEnds
  split
  · exact .refl s
  · exact ⟨rfl, rfl, rfl, rfl, rfl, rfl, rfl, rfl, fun _ => ⟨rfl, rfl⟩⟩

/-! ## Posted frames in an open order (R181) -/

/-- Taking a source's first frame out of the posted ones loses none. -/
theorem takeFirst_perm {src : Source} {ps : List Post} {p : Post} {rest : List Post}
    (h : takeFirst src ps = some (p, rest)) : ps.Perm (p :: rest) := by
  induction ps generalizing p rest with
  | nil => cases h
  | cons x xs ih =>
    unfold takeFirst at h
    split at h
    · cases h
      exact .refl _
    · cases e : takeFirst src xs with
      | none => rw [e] at h; cases h
      | some r =>
        rw [e] at h
        cases h
        exact ((ih (p := r.1) (rest := r.2) e).cons x).trans (.swap _ _ _)

/-- Whatever order the schedule picks, every posted frame reaches the queue's rule once. -/
theorem mergePosts_perm (sched : List Source) (ps : List Post) : (mergePosts sched ps).Perm ps := by
  induction sched generalizing ps with
  | nil => exact .refl _
  | cons src rest ih =>
    unfold mergePosts
    split
    · next p ps' e => exact ((ih ps').cons p).trans (takeFirst_perm e).symm
    · exact ih ps

end Sys2Proof.Machine
end

