-- ==== Sys2Proof/Tests/Slice0.lean ====
section
/-! SUPPORT. Tests/Slice0.lean: the checks of WellFormed refuse ill-formed commands; single commands on small states; and
for each obligation with hypotheses a theorem witness_<its name> with a state and operands that meet them, clause by
clause. -/

namespace Sys2Proof.Tests

open Sys2Proof.Machine

set_option Elab.async false

/-! ## WellFormed: one ill-formed command for each check -/

theorem test_wellFormed_request : (Instr.stageGet 7 []).wellFormed = true := by decide
theorem test_wellFormed_refuses_long_request :
    (Instr.ident 7 (List.replicate 241 0)).wellFormed = false := by decide +kernel
theorem test_wellFormed_refuses_foreign_row : (Instr.takeMarkSet 7 [1, 1, 0, 0, 0, 1]).wellFormed = false := by decide
theorem test_wellFormed_refuses_request_kind_as_unknown : (Instr.unknownKind 0x05 7 []).wellFormed = false := by decide
theorem test_wellFormed_refuses_long_busy :
    (Instr.busy 0x05 7 (List.replicate 241 0)).wellFormed = false := by decide +kernel
theorem test_wellFormed_refuses_long_discard :
    (Instr.restartingDiscard 0x05 7 (List.replicate 241 0)).wellFormed = false := by decide +kernel
theorem test_wellFormed_refuses_readable_message :
    (Instr.unreadableMessage [0x5D, 3, 0, 0, 0, 0, 0, 1, 0xFC]).wellFormed = false := by decide
theorem test_wellFormed_refuses_empty_fault : (Instr.frameFault []).wellFormed = false := by decide

/-! ## Words from the layouts of chapter 11 -/

/-- PLAY at 01:00:00:00, rate 24 (R196). -/
def playWord : List Byte := [0xA6, 1, 0, 0, 0, 0x10, 0xEF]
/-- PLAY at 01:00:00:01, rate 24 (R196). -/
def nextPlayWord : List Byte := [0xA6, 1, 0, 0, 1, 0x10, 0xEE]
/-- PLAY at 02:00:00:00, rate 24 (R196). -/
def farPlayWord : List Byte := [0xA6, 2, 0, 0, 0, 0x10, 0xEE]
/-- PARK at 01:00:00:00, rate 24 (R196). -/
def parkWord : List Byte := [0xA6, 1, 0, 0, 0, 0x20, 0xDF]
/-- WIND at 01:00:00:00, rate 24 (R196). -/
def windWord : List Byte := [0xA6, 1, 0, 0, 0, 0x30, 0xCF]

theorem test_position_word : readPositionWord playWord = some ⟨1, 0, 0, 0, 0, .play⟩ := by decide
theorem test_done_message :
    readMessage [0x5D, 1, 0x12, 0x34, 0, 1, 0x51, 0x80, 0xE7] = some (.done 0x1234 86400) := by decide
theorem test_flow_message : readMessage [0x5D, 3, 0, 0, 0, 0, 0, 1, 0xFC] = some (.flow .ready) := by decide
theorem test_stage_get_frame : frameBytes 0x05 0x1234 [] = [0xC5, 0, 5, 0x12, 0x34, 0xB5] := by decide

/-- The bytes of a word read with the rate and label of a valid word (R18). -/
def validWord (rate : StageRate) (bytes : List Byte) (m : Motion) (p : Nat) : Bool :=
  match readPositionWord bytes with
  | some w =>
    decide (w.rateCode = rate.code) && labelValid rate w.hours w.minutes w.seconds w.frames && decide (w.motion = m) &&
      decide (countOfLabel rate w.hours w.minutes w.seconds w.frames = p)
  | none => false

theorem validWord_gives_ValidWord (rate : StageRate) (bytes : List Byte) (m : Motion) (p : Nat)
    (h : validWord rate bytes m p = true) : ValidWord rate bytes m p := by
  unfold validWord at h
  split at h
  · next w hw =>
    simp only [Bool.and_eq_true, decide_eq_true_eq] at h
    exact ⟨w, hw, h.1.1.1, h.1.1.2, h.1.2, h.2⟩
  · cases h

/-! ## Small states -/

/-- The next state of an outcome. -/
def nextOf (o : Host.Outcome State Fault Refusal) : Option State :=
  match o with
  | .next t => some t
  | .fault _ => none
  | .refused _ => none

/-- The value of a reading. -/
def valueOf {α : Type} (r : Read α) : Option α :=
  match r with
  | .ok x => some x
  | .error _ => none

theorem valueOf_gives_ok {α : Type} {r : Read α} {x : α} (h : valueOf r = some x) : r = .ok x := by
  cases r with
  | ok y => exact congrArg _ (Option.some.inj h)
  | error c => cases h

/-- The part after power-on with the chase unit's items given. -/
def chasing (c : Chase) : State := { State.reset with chase := c }

/-- NO_SIGNAL, PARKED or WINDING. -/
def idleChase (st : ChaseState) (t : Timer) : Chase := { Chase.reset with state := st, absence := t }

/-- ACQUIRING with a run count, at 01:00:00:00. -/
def acquiring (n : Nat) : Chase :=
  { Chase.reset with state := .acquiring, lastPos := some 86400, runCount := n, absence := .running 6 .r24 }

/-- LOCKED at 01:00:00:00. -/
def locked : Chase :=
  { Chase.reset with
    state := .locked, lastPos := some 86400, lastAdvanced := some 86400, runCount := 4, absence := .running 3 .r24 }

/-- FREEWHEEL with a number of advances made, at the position before a count. -/
def freewheel (count advances : Nat) : Chase :=
  { Chase.reset with
    state := .freewheel, lastPos := some 86398, runCount := 4, fwCount := some count, fwAdvances := advances,
    lastAdvanced := some count, fwTimer := .running 2 .r24 }

/-- A reel from 1000 to 6000. -/
def reelOne : Reel := ⟨1, 1000, 5000, [0x41]⟩

/-- A cue of that reel. -/
def cueAt (id inPos outPos : Nat) : Cue :=
  { fields :=
      { id := id, inPos := inPos, outPos := outPos, character := 3, tracks := [5, 6], streamer := none, beep := none,
        guide := none, scriptRef := some 77 },
    reel := 1, nextTake := 1, mark := none }

/-- Two cues in their reel. -/
def stocked : State := { State.reset with reels := [reelOne], cues := [cueAt 10 2000 2100, cueAt 11 3000 3100] }

/-- Take 1 of cue 10 in booth 1, in a state. -/
def takeIn (st : TakeState) : Take :=
  { serial := 1, cue := 10, number := 1, booth := .bc1, track := 5, plannedStart := 1988, plannedEnd := 2112,
    spanEnd := if st.holdsSpan then some 2112 else none, recIn := none, recOut := none, state := st,
    reason := if st = .failed then some .broken else none, flags := ⟨false, false, false⟩, circled := false,
    closing := if st = .withdrawing then some 2050 else none }

/-- The part with one take in the log, and its span while it holds one. -/
def logged (t : Take) : State :=
  { stocked with
    log := { records := [t], counter := 2, bound := 1 }
    spans := if t.state.holdsSpan then [⟨5, 1988, 2112, 1⟩] else [] }

/-- A pass of cues under RECORD and ONCE. -/
def passOf (ids : List Nat) : Context :=
  { mode := .record, policy := .once, limit := 0, kept := 0, entries := ids.map fun c => ⟨c, false, 0⟩, cursor := some 1,
    reachEnd := 3112 }

/-- Booth 1 changed. -/
def withBooth (f : Booth → Booth) (s : State) : State := { s with booths := s.booths.set .bc1 (f (s.booths.get .bc1)) }

/-- The live entry of cue 10 with take 1. -/
def entryTen : LiveEntry :=
  { admittedEntry 10 .record
      (snapshotOf .record (Booth.powerUp 0).settings Stage.powerUp (cueAt 10 2000 2100).fields) none (some ⟨1, 1⟩) 1940 with
    startTag := some 0x0042 }

/-- Booth 1 in a state with the pass of cues 10 and 11 active and cue 10 live, its take in a state. -/
def rolling (st : BoothState) (t : TakeState) : State :=
  withBooth (fun v => { v with
    state := st, active := some (passOf [10, 11]), window := [entryTen], lastTaken := some 2050 }) (logged (takeIn t))

/-- An order of booth 1 for take 1. -/
def orderOf (body : OrderBody) (tag : Tag) : Order :=
  { body := body, tag := tag, booth := some .bc1, take := some 1, cue := none, raisedAt := some 1986, reached := false }

/-- A running awaiting entry of such an order, its timer running. -/
def awaitingOf (body : OrderBody) (tag : Tag) : Awaiting :=
  { order := orderOf body tag, stage := .running, sendEnded := true, timer := .running 16 .r24 }

/-- A state with one entry in the awaiting list. -/
def awaiting (a : Awaiting) (s : State) : State := { s with link := { s.link with awaiting := [a] } }

/-- A queue of `n` frames. -/
def queueOf (n : Nat) : List OutFrame := List.replicate n (busyFrame 0x05 7)

/-- A state with a queue, an intake state and a lost set. -/
def withQueue (q : List OutFrame) (i : Intake) (l : ClassSet) (s : State) : State :=
  { s with ctl := { s.ctl with queue := q, intake := i, lost := l } }

/-! ## The block -/

theorem witness_StepRunsTheFrontCommand :
    ({ State.reset with pending := [.flow .ready] } : State).pending = .flow .ready :: [] ∧ State.reset.pending = [] ∧
    nextOf (step { State.reset with pending := [.flow .ready] }) = nextOf (exec (.flow .ready) State.reset) := by
  decide +kernel

theorem test_powerOn_gives_reset : nextOf (exec .powerOn (rolling .rolling .opened)) = some State.reset := by
  decide +kernel

/-! ## Chase unit -/

theorem witness_InvalidWordPostsOneBadWord :
    Settled State.reset ∧ wordFault .r24 [] = some .form ∧ wordFault .r24 [0xA6, 1, 0, 0, 0, 0x11, 0xEE] = some .rate ∧
    wordFault .r24 [0xA6, 24, 0, 0, 0, 0x10, 0xD8] = some .label ∧ State.reset.chase.badRun = false ∧
    nextOf (exec (.positionWord []) State.reset) =
      some (noticed .chase (.badWord .form) (chasing { Chase.reset with badRun := true })) ∧
    nextOf (exec (.positionWord []) (chasing { Chase.reset with badRun := true })) =
      some (chasing { Chase.reset with badRun := true }) := by
  decide +kernel

theorem witness_WordOutsideARollSettles :
    ValidWord .r24 playWord .play 86400 ∧ ValidWord .r24 parkWord .park 86400 ∧ ValidWord .r24 windWord .wind 86400 ∧
    ChaseSound State.reset ∧ ChaseSound (chasing (idleChase .parked (.running 6 .r24))) ∧
    ChaseSound (chasing (idleChase .winding (.running 6 .r24))) ∧ State.reset.posted = [] ∧
    ((nextOf (exec (.positionWord playWord) State.reset)).map (·.chase)) = some (acquiring 1) ∧
    ((nextOf (exec (.positionWord playWord) State.reset)).map (·.lines.q3)) =
      some { offered (frameContent .bc3 (some 86400) (chasing (acquiring 1))) Line.powerUp with timer := .stopped } := by
  refine ⟨validWord_gives_ValidWord _ _ _ _ (by decide +kernel), validWord_gives_ValidWord _ _ _ _ (by decide +kernel),
    validWord_gives_ValidWord _ _ _ _ (by decide +kernel), ?_⟩
  repeat' apply And.intro
  all_goals decide +kernel

theorem witness_AcquiringWordCountsTowardsLock :
    ValidWord .r24 nextPlayWord .play 86401 ∧ ValidWord .r24 farPlayWord .play 172800 ∧
    ValidWord .r24 parkWord .park 86400 ∧ ChaseSound (chasing (acquiring 2)) ∧ ChaseSound (chasing (acquiring 3)) ∧
    continuesFrom .r24 (some 86400) 86401 = true ∧ continuesFrom .r24 (some 86400) 172800 = false ∧
    (acquiring 2).runCount + 1 < Stage.powerUp.lockCount ∧ Stage.powerUp.lockCount ≤ (acquiring 3).runCount + 1 ∧
    ((nextOf (exec (.positionWord nextPlayWord) (chasing (acquiring 2)))).map (·.chase.state)) = some .acquiring ∧
    ((nextOf (exec (.positionWord nextPlayWord) (chasing (acquiring 3)))).map (·.chase.state)) = some .locked ∧
    ((nextOf (exec (.positionWord parkWord) (chasing (acquiring 2)))).map (·.ctl)) =
      some (noticed .chase (.chase .acquiring .parked (some 86400) none) State.reset).ctl ∧
    ((nextOf (exec (.positionWord nextPlayWord) (chasing (acquiring 2)))).map
      (·.lines.q1.waiting.map (·.display))) = some (some (some 86402)) := by
  refine ⟨validWord_gives_ValidWord _ _ _ _ (by decide +kernel), validWord_gives_ValidWord _ _ _ _ (by decide +kernel),
    validWord_gives_ValidWord _ _ _ _ (by decide +kernel), ?_⟩
  repeat' apply And.intro
  all_goals decide +kernel

theorem witness_WordInARollAdvancesOrBreaks :
    ValidWord .r24 nextPlayWord .play 86401 ∧ ValidWord .r24 playWord .play 86400 ∧ ValidWord .r24 windWord .wind 86400 ∧
    ChaseSound (chasing locked) ∧ continuesFrom .r24 locked.lastPos 86401 = true ∧
    ChaseSound (chasing (freewheel 86401 1)) ∧ ChaseSound (chasing (freewheel 86400 1)) ∧
    86401 = nextPos .r24 86400 ∧
    ((nextOf (exec (.positionWord nextPlayWord) (chasing locked))).map (·.chase.lastAdvanced)) = some (some 86401) ∧
    ((nextOf (exec (.positionWord nextPlayWord) (chasing (freewheel 86401 1)))).map (·.chase.state)) = some .locked ∧
    ((nextOf (exec (.positionWord windWord) (chasing (freewheel 86400 1)))).map (·.chase.state)) = some .winding := by
  refine ⟨validWord_gives_ValidWord _ _ _ _ (by decide +kernel), validWord_gives_ValidWord _ _ _ _ (by decide +kernel),
    validWord_gives_ValidWord _ _ _ _ (by decide +kernel), ?_⟩
  repeat' apply And.intro
  all_goals decide +kernel

theorem witness_WordInARollAdvancesOrBreaks_notices :
    (runChase (wordOut Stage.powerUp .wind 86400 locked) (chasing locked)).posted =
      [⟨.chase, noticeFrame (.chase .locked .winding (some 86400) (some .wind))⟩] ∧
    (runChase (absenceOut Stage.powerUp locked) (chasing locked)).posted =
      [⟨.chase, noticeFrame (.chase .locked .freewheel (some 86401) none)⟩] ∧
    (runChase (freewheelExpiryOut Stage.powerUp (freewheel 86400 8)) (chasing (freewheel 86400 8))).posted =
      [⟨.chase, noticeFrame (.chase .freewheel .noSignal (some 86398) (some .signalLost))⟩] ∧
    (runChase (wordOut Stage.powerUp .play 86401 locked) (chasing locked)).posted = [] := by
  decide +kernel

theorem witness_ExpiriesOfTheChaseTimers :
    ChaseSound (chasing (acquiring 2)) ∧ (chasing (acquiring 2)).chase.absence ≠ .stopped ∧ ChaseSound (chasing locked) ∧
    locked.absence ≠ .stopped ∧ ChaseSound (chasing (freewheel 86400 7)) ∧ 7 < Stage.powerUp.fwLimit ∧
    ChaseSound (chasing (freewheel 86400 8)) ∧ Stage.powerUp.fwLimit ≤ 8 ∧
    ((nextOf (exec .absenceTimerExpiry (chasing (acquiring 2)))).map (·.chase.state)) = some .noSignal ∧
    ((nextOf (exec .absenceTimerExpiry (chasing locked))).map (·.chase.fwCount)) = some (some 86401) ∧
    ((nextOf (exec .freewheelTimerExpiry (chasing (freewheel 86400 7)))).map (·.chase.fwAdvances)) = some 8 ∧
    ((nextOf (exec .freewheelTimerExpiry (chasing (freewheel 86400 8)))).map (·.chase.state)) = some .noSignal ∧
    (∀ b ∈ allBooths, ((chasing locked).booth b).state ∈ [BoothState.empty, .ready, .held, .done]) ∧
    ((nextOf (exec .absenceTimerExpiry (chasing (acquiring 2)))).map (·.lines.q1.waiting.map (·.display))) =
      some (some none) ∧
    ((nextOf (exec .freewheelTimerExpiry (chasing (freewheel 86400 8)))).map
      (fun u => (u.lines.q2.waiting.map (·.display), u.lines.q2.timer))) = some (some none, .running 48 .r24) ∧
    ((nextOf (exec .absenceTimerExpiry (chasing locked))).map (·.lines.q1.waiting.map (·.display))) =
      some (some (some 86402)) := by
  repeat' apply And.intro
  all_goals decide +kernel

theorem witness_ChaseEventsLeaveTheRest :
    ((nextOf (exec .absenceTimerExpiry (chasing locked))).map (·.stage)) = some Stage.powerUp ∧
    ((nextOf (exec .freewheelTimerExpiry (chasing (freewheel 86400 7)))).map (·.ctl.receiver)) = some .hunt ∧
    ((nextOf (exec (.positionWord playWord) State.reset)).map (·.link.flow)) = some .hold := by
  decide +kernel

theorem witness_AdvancesFollowOneAnother :
    ChaseSound (chasing locked) ∧ (wordOut Stage.powerUp .play 86401 locked).said = some (.advance 86401 true) ∧
    locked.absence ≠ .stopped ∧ (absenceOut Stage.powerUp locked).said = some (.advance 86401 false) ∧
    ChaseSound (chasing (freewheel 86400 7)) ∧ (freewheel 86400 7).fwTimer ≠ .stopped ∧
    (freewheelExpiryOut Stage.powerUp (freewheel 86400 7)).said = some (.advance 86401 false) := by
  repeat' apply And.intro
  all_goals decide +kernel

/-! ## Booth lines -/

/-- The lines after power-on with line 1 changed. -/
def lined (f : Line → Line) : State := { State.reset with lines := State.reset.lines.set .bc1 (f Line.powerUp) }

theorem witness_LineSendsOneFrameAtATime :
    ((lined fun l => { l with sending := false }).lines.get .bc1).timer ≠ .stopped ∧
    (State.reset.lines.get .bc1).timer ≠ .stopped ∧ (State.reset.lines.get .bc1).sending = true ∧
    (State.reset.lines.get .bc1).waiting = none ∧
    ((lined fun l => { l with waiting := some .blank }).lines.get .bc1).waiting = some .blank ∧
    ((nextOf (exec (.noSignalTimerExpiry .bc1) State.reset)).map (·.lines.q1.waiting)) = some (some .blank) ∧
    ((nextOf (exec (.boothFrameSent .bc1) (lined fun l => { l with waiting := some .blank }))).map (·.lines.q1.seq)) =
      some 2 ∧
    ((nextOf (exec (.boothFrameSent .bc1) State.reset)).map (·.lines.q1.sending)) = some false := by
  decide +kernel

theorem witness_BoothFrameShowsTheFrontEntry :
    (State.reset.booth .bc1).window = [] ∧ ((rolling .rolling .opened).booth .bc1).window = entryTen :: [] ∧
    entryTen.gates.streamer = false ∧ (1743 + 1) + 255 < entryTen.snap.inPos ∧
    (1744 + 1 : Nat) < entryTen.snap.inPos ∧ entryTen.snap.inPos ≤ (1744 + 1) + 255 ∧
    entryTen.snap.inPos ≤ 1999 + 1 ∧ 0 < entryTen.snap.streamer ∧
    (frameContent .bc1 (some 1743) (rolling .rolling .opened)).countdown = some 255 ∧
    (frameContent .bc1 (some 1744) (rolling .rolling .opened)).countdown = some 255 ∧
    (frameContent .bc1 (some 1999) (rolling .rolling .opened)).countdown = none ∧
    streamerValue entryTen.snap 1952 = 0 ∧ streamerValue entryTen.snap 1999 = 1001 := by
  decide +kernel

theorem witness_BoothFrameShowsTheFrontEntry_gates :
    entryTakeState entryTen (rolling .rolling .opened) = some .opened ∧
    entryTakeState entryTen (rolling .rolling .failed) = some .failed ∧
    eventTaken .bc1 entryTen .lampOn 1999 true (rolling .rolling .opened) =
      { rolling .rolling .opened with
        booths := entryChanged .bc1 10
          (fun x => { marked .lampOn .taken x with gates := { x.gates with lamp := true } }) (rolling .rolling .opened) } ∧
    ((eventTaken .bc1 entryTen .lampOn 1999 true (rolling .rolling .failed)).booth .bc1).window.map (·.gates.lamp) =
      [false] ∧
    ((eventTaken .bc1 entryTen (.beepOn 3) 1975 false (rolling .rolling .failed)).booth .bc1).window.map (·.gates.beep) =
      [true] := by
  decide +kernel

/-! ## Link controller -/

/-- The state with the receiver in FRAME with the bytes given. -/
def receiving (bytes : List Byte) : State :=
  { State.reset with ctl := { State.reset.ctl with receiver := .frame bytes } }

theorem witness_ReceiverHuntsForFrames :
    Settled State.reset ∧ State.reset.ctl.receiver = .hunt ∧ readCandidate [241] = .faulty .length ∧
    readCandidate [0, 5, 0, 0, 0] = .faulty .check ∧ 0xC5 ∉ [(1 : Byte)] ∧ 0xC5 ∉ [(241 : Byte)] ∧
    (receiving [0xC5, 1]).ctl.receiver = .frame (0xC5 :: [1]) ∧
    readCandidate ([241] ++ frameBytes 0x05 7 []) = .faulty .length ∧
    nextOf (exec (.frameFault ([1] ++ 0xC5 :: [241])) State.reset) =
      some (noticed .link (.link .length) { State.reset with ctl := { State.reset.ctl with faultRun := true } }) ∧
    nextOf (exec (.frameFault ([1] ++ frameBytes 0x05 7 [])) State.reset) =
      some (takeRequest 0x05 7 (handlerOf 0x05 []) State.reset) ∧
    nextOf (exec (.frameFault (0xC5 :: ([241] ++ frameBytes 0x05 7 []))) State.reset) =
      some (takeRequest 0x05 7 (handlerOf 0x05 []) (conclude (frameFaulted .length State.reset))) := by
  repeat' apply And.intro
  all_goals decide +kernel

theorem witness_FramesAndWordsReadBack :
    240 < (241 : Byte).toNat ∧ (240 : Byte).toNat ≤ 240 ∧ (List.replicate 243 (0 : Byte)).length < (240 : Byte).toNat + 4 ∧
    (List.replicate 244 (0 : Byte)).length = (240 : Byte).toNat + 4 ∧
    byteSum (240 :: List.replicate 244 (0 : Byte)) ≠ 0 ∧ (List.replicate 240 (0 : Byte)).length ≤ 240 ∧
    motionOfCode 3 = some .wind ∧
    readCandidate (241 :: []) = .faulty .length ∧ readCandidate (240 :: List.replicate 243 0) = .partly ∧
    readCandidate (240 :: List.replicate 244 0) = .faulty .check ∧
    readCandidate ((frameBytes 0x0B 0xFFFF (List.replicate 240 9)).drop 1 ++ [1]) =
      .framed 0x0B 0xFFFF (List.replicate 240 9) [1] := by
  repeat' apply And.intro
  all_goals decide +kernel

/-- A state whose intake holds a reply that found the queue full. -/
def waiting : State := withQueue (queueOf 16) (.handling (replyFrame 0x1E 7 .ok)) .none State.reset

theorem witness_FrameIsTakenByTheIntake :
    Settled waiting ∧ waiting.ctl.intake = .handling (replyFrame 0x1E 7 .ok) ∧
    (Instr.stageGet 9 []).request = some (0x05, 9, []) ∧
    Settled (withQueue [] .restarting .none State.reset) ∧
    nextOf (exec (.busy 0x05 9 []) waiting) = some { waiting with ctl := waiting.ctl.placeBusy ⟨0x85, 9, .busy⟩ } ∧
    nextOf (exec (.restartingDiscard 0x05 9 []) (withQueue [] .restarting .none State.reset)) =
      some (withQueue [] .restarting .none State.reset) := by
  repeat' apply And.intro
  all_goals decide +kernel

theorem witness_GenericRefusalChangesNothing :
    CanReply State.reset ∧ (Instr.reelDrop 7 [13]).request = some (0x02, 7, [13]) ∧
    genericRefusal .r24 0x02 [13] = some .badValue ∧ genericRefusal .r24 0x02 [] = some .badLength ∧
    genericRefusal .r24 0x21 [] = some .unknownKind ∧ genericRefusal .r24 0x15 [0] = some .badLength ∧
    genericRefusal .r24 0x1A [1, 0, 1] = some .badLength ∧ genericRefusal .r24 0x0B [1, 0, 0, 0, 4, 1] = some .badLength ∧
    nextOf (exec (.reelDrop 7 [13]) State.reset) = some (replied 0x02 7 (.refused .badValue) State.reset) ∧
    nextOf (exec (.unknownKind 0x21 7 []) State.reset) = some (replied 0x21 7 (.refused .unknownKind) State.reset) := by
  repeat' apply And.intro
  all_goals decide +kernel

theorem witness_GenericRefusalChangesNothing_values :
    BadValue .r24 0x02 [13] ∧ BadValue .r24 0x04 [0, 4, 31, 0, 0, 0] ∧ ¬ BadValue .r24 0x04 [0, 4, 30, 0, 0, 0] ∧
    BadValue .r24 0x06 (cueFieldBytes { (cueAt 10 2000 2100).fields with tracks := [5, 33] }) ∧
    ¬ BadValue .r24 0x06 (cueFieldBytes (cueAt 10 2000 2100).fields) ∧ BadValue .r24 0x14 [32, 4, 1] ∧
    BadValue .r24 0x15 [0, 2, 0, 0, 0, 1, 0, 0, 0, 1] ∧ BadValue .r24 0x1A [1, 0, 2, 7, 7] ∧
    genericRefusal .r24 0x14 [32, 4, 1] = some .badValue ∧ genericRefusal .r24 0x1A [1, 0, 2, 7, 7] = some .badValue := by
  refine ⟨?_, ?_, ?_, ?_, ?_, ?_, ?_, ?_, by decide +kernel, by decide +kernel⟩ <;> simp only [BadValue] <;> decide +kernel

theorem witness_QueueKeepsOnePlaceForReplies :
    (withQueue (queueOf 14) .idle .none State.reset).ctl.queue.length ≤ 14 ∧
    14 < (withQueue (queueOf 15) .idle .none State.reset).ctl.queue.length ∧
    queueOf 14 ++ [noticeFrame (.recFlow .ready)] =
      busyFrame 0x05 7 :: (queueOf 13 ++ noticeFrame (.recFlow .ready) :: []) ∧
    (noticeFrame (.recFlow .ready)).noticeClass = some .recorder ∧ (∀ x ∈ queueOf 14, x.noticeClass = none) ∧
    Settled (withQueue (queueOf 16) .idle .none State.reset) ∧ (0x05 : Byte).toNat ∈ [0x03, 0x05] ∧
    nextOf (exec (.stageGet 7 []) (withQueue (queueOf 16) .idle .none State.reset)) =
      some (withQueue (queueOf 16) (.handling (replyFrame 0x05 7 (.stage .powerUp))) .none State.reset) ∧
    nextOf (exec (.stageGet 7 []) (withQueue (queueOf 15) .idle .none State.reset)) =
      some (replied 0x05 7 (.stage .powerUp) (withQueue (queueOf 15) .idle .none State.reset)) := by
  repeat' apply And.intro
  all_goals decide +kernel

/-- The lost set with RECORDER alone. -/
def lostRecorder : ClassSet := ClassSet.add .none .recorder

theorem witness_LeavingFrameMakesRoom :
    Settled waiting ∧ waiting.ctl.queue = busyFrame 0x05 7 :: queueOf 15 ∧ (queueOf 15).length ≤ 15 ∧
    ¬ (waiting.ctl.intake = .restarting ∧ (busyFrame 0x05 7).isRestartOk = true) ∧ lostRecorder ≠ .none ∧
    13 < (queueOf 14).length ∧
    nextOf (exec .outboundFrameSent waiting) =
      some (withQueue (queueOf 15 ++ [replyFrame 0x1E 7 .ok]) .idle .none State.reset) ∧
    nextOf (exec .outboundFrameSent (withQueue (queueOf 15) .idle lostRecorder State.reset)) =
      some (withQueue (queueOf 14 ++ [noticeFrame (.lost lostRecorder)]) .idle .none State.reset) ∧
    nextOf (exec .outboundFrameSent (withQueue (queueOf 16) .idle lostRecorder State.reset)) =
      some (withQueue (queueOf 15) .idle lostRecorder State.reset) ∧
    nextOf (exec .outboundFrameSent
        (withQueue (queueOf 14) (.handling (replyFrame 0x1E 7 .ok)) lostRecorder State.reset)) =
      some (withQueue (queueOf 13 ++ [replyFrame 0x1E 7 .ok, noticeFrame (.lost lostRecorder)]) .idle .none
        State.reset) := by
  repeat' apply And.intro
  all_goals decide +kernel

/-- The RESTART reply is the one frame in the queue. -/
def restarting (s : State) : State := withQueue [replyFrame 0x20 7 .ok] .restarting .none s

theorem witness_RestartResetsEveryBlock :
    Settled (restarting (rolling .rolling .opened)) ∧
    (restarting State.reset).ctl.queue = replyFrame 0x20 7 .ok :: [] ∧
    (restarting State.reset).ctl.intake = .restarting ∧ (replyFrame 0x20 7 .ok).isRestartOk = true ∧
    2051 = min (takeIn .opened).plannedEnd (2050 + 1) ∧ (takeIn .opened).plannedStart < 2051 ∧
    1988 = min (takeIn .withdrawing).plannedEnd (1987 + 1) ∧ 1988 ≤ (takeIn .withdrawing).plannedStart ∧
    (takeIn .planned).state = .planned ∧ (takeIn .kept).state.isLive = false ∧
    (convertTake (some 2050) (takeIn .opened)).state = .aborted ∧
    (convertTake (some 1987) (takeIn .withdrawing)).state = .failed ∧
    convertSpan (some 2050) [takeIn .opened] ⟨5, 1988, 2112, 1⟩ = some ⟨5, 1988, 2051, 1⟩ ∧
    ((nextOf (exec .outboundFrameSent (restarting (rolling .rolling .opened)))).map (·.link.stopLane)) =
      some [⟨.haltAll, 0, none, none, none, none, true⟩] := by
  repeat' apply And.intro
  all_goals decide +kernel

theorem witness_PartWideRequestsAreAlwaysAccepted :
    CanReply State.reset ∧ (63 : Byte).toNat < 64 ∧ ClassSet.all.byte = 63 ∧ 64 ≤ (64 : Byte).toNat ∧
    nextOf (exec (.ident 7 []) State.reset) = some (replied 0x1F 7 (.ident .powerOn) State.reset) ∧
    nextOf (exec (.noticeSet 7 [63]) State.reset) = some (replied 0x1D 7 (.enabled .all) State.reset) ∧
    nextOf (exec (.noticeSet 7 [64]) State.reset) = some (replied 0x1D 7 (.refused .badValue) State.reset) ∧
    ((nextOf (exec (.restart 7 []) State.reset)).map (·.ctl.intake)) = some .restarting ∧
    ((nextOf (exec (.status 7 []) State.reset)).map (·.ctl.queue.length)) = some 2 := by
  repeat' apply And.intro
  all_goals decide +kernel

/-! ## Reels, stage settings, cues -/

/-- Reels 2 to 12, of one frame each, behind the first. -/
def manyReels : List Reel :=
  reelOne :: [2, 3, 4, 5, 6, 7, 8, 9, 10, 11, 12].map fun n => ⟨n, 10000 + n, 1, []⟩

/-- The part with those reels and no cue. -/
def reeled : State := { State.reset with reels := manyReels }

/-- The part with reels and cues, two of them. -/
def reelTwo : Reel := ⟨2, 6000, 100, [0x42]⟩

theorem witness_ReelsAreDefinedAndDropped :
    CanReply stocked ∧ Ascending Reel.id stocked.reels ∧ readReelDefine .r24 (reelBytes reelTwo) = .ok reelTwo ∧
    readReelDefine .r24 (reelBytes reelOne) = .ok reelOne ∧ CanReply reeled ∧ Ascending Reel.id reeled.reels ∧
    12 ≤ reeled.reels.length ∧
    nextOf (exec (.reelDefine 7 (reelBytes reelTwo)) stocked) =
      some (replied 0x01 7 (.reel reelTwo) { stocked with reels := [reelOne, reelTwo] }) ∧
    nextOf (exec (.reelDefine 7 (reelBytes reelOne)) stocked) = some (replied 0x01 7 (.refused .reelInUse) stocked) ∧
    nextOf (exec (.reelDefine 7 (reelBytes { reelTwo with start := 5999 })) stocked) =
      some (replied 0x01 7 (.refused .reelOverlap) stocked) ∧
    nextOf (exec (.reelDefine 7 (reelBytes reelTwo)) { reeled with reels := reeled.reels.drop 1 ++ [⟨13, 20000, 1, []⟩] }) =
      some (replied 0x01 7 (.reel reelTwo)
        { reeled with reels := reelTwo :: reeled.reels.drop 2 ++ [⟨13, 20000, 1, []⟩] }) ∧
    nextOf (exec (.reelDrop 7 [2]) stocked) = some (replied 0x02 7 (.refused .noSuchReel) stocked) ∧
    nextOf (exec (.reelDrop 7 [1]) stocked) = some (replied 0x02 7 (.refused .reelInUse) stocked) ∧
    nextOf (exec (.reelDrop 7 [12]) reeled) =
      some (replied 0x02 7 .ok { reeled with reels := reeled.reels.take 11 }) := by
  repeat' apply And.intro
  all_goals first | exact valueOf_gives_ok (by decide +kernel) | decide +kernel

theorem witness_LineIsPlacedInOneReel :
    ReelMapSound { stocked with reels := [reelOne, reelTwo] } ∧ 5999 < 6000 ∧
    placeLine [reelOne, reelTwo] 5000 6000 = some 1 ∧ placeLine [reelOne, reelTwo] 5000 6001 = none ∧
    placeLine [reelOne, reelTwo] 6000 6100 = some 2 := by
  repeat' apply And.intro
  all_goals decide +kernel

theorem witness_StageGetReportsTheSixSettings :
    CanReply State.reset ∧
    nextOf (exec (.stageGet 7 []) State.reset) = some (replied 0x05 7 (.stage .powerUp) State.reset) ∧
    nextOf (exec (.stageGet 7 [0]) State.reset) = some (replied 0x05 7 (.refused .badLength) State.reset) ∧
    replyBytes (.stage Stage.powerUp) = [0, 0, 4, 8, 2, 12, 12] := by
  repeat' apply And.intro
  all_goals decide +kernel

/-- Stage settings at rate 25 and at the ends of their ranges (R34). -/
def stageAt25 : Stage := ⟨.r25, 8, 30, 15, 48, 0⟩

theorem witness_StageSetStoresOrRefuses :
    CanReply State.reset ∧ CanReply stocked ∧ CanReply (rolling .rolling .opened) ∧
    readStageSet (stageBytes stageAt25) = .ok stageAt25 ∧
    ((rolling .rolling .opened).booth .bc1).state = .rolling ∧
    (∀ b ∈ allBooths, (stocked.booth b).state = .empty) ∧ stageAt25.rate ≠ stocked.stage.rate ∧ stocked.cues ≠ [] ∧
    (chasing locked).cues = [] ∧ (chasing locked).reels = [] ∧
    nextOf (exec (.stageSet 7 (stageBytes stageAt25)) (rolling .rolling .opened)) =
      some (replied 0x04 7 (.refused .wrongState) (rolling .rolling .opened)) ∧
    nextOf (exec (.stageSet 7 (stageBytes stageAt25)) stocked) = some (replied 0x04 7 (.refused .rateLocked) stocked) ∧
    nextOf (exec (.stageSet 7 (stageBytes { stageAt25 with rate := .r24 })) stocked) =
      some (replied 0x04 7 (.stage { stageAt25 with rate := .r24 })
        { stocked with stage := { stageAt25 with rate := .r24 } }) ∧
    ((nextOf (exec (.stageSet 7 (stageBytes stageAt25)) State.reset)).map (·.stage)) = some stageAt25 := by
  repeat' apply And.intro
  all_goals first | exact valueOf_gives_ok (by decide +kernel) | decide +kernel

/-- The body of a CUE-PUT of a cue (R43). -/
def putBody (id inPos outPos : Nat) : List Byte := cueFieldBytes (cueAt id inPos outPos).fields

/-- A cue whose mark says that it is in the staged pass of booth 1. -/
def markedTen : State :=
  { stocked with cues := [{ cueAt 10 2000 2100 with mark := some ⟨.bc1, false, true⟩ }, cueAt 11 3000 3100] }

theorem witness_CuePutStoresOrRefuses :
    CanReply stocked ∧ CueTableSound stocked ∧ CanReply markedTen ∧ CueTableSound markedTen ∧
    readCuePut .r24 (putBody 12 5000 5100) = .ok (cueAt 12 5000 5100).fields ∧
    readCuePut .r24 (putBody 12 11 5100) = .ok (cueAt 12 11 5100).fields ∧ 11 < stocked.stage.pre ∧
    nextOf (exec (.cuePut 7 (putBody 12 5000 5000)) stocked) = some (replied 0x06 7 (.refused .badValue) stocked) ∧
    nextOf (exec (.cuePut 7 (putBody 12 5000 14001)) stocked) = some (replied 0x06 7 (.refused .badValue) stocked) ∧
    nextOf (exec (.cuePut 7 (putBody 12 11 5100)) stocked) = some (replied 0x06 7 (.refused .badValue) stocked) ∧
    nextOf (exec (.cuePut 7 (putBody 12 5000 14000)) stocked) = some (replied 0x06 7 (.refused .offReel) stocked) ∧
    nextOf (exec (.cuePut 7 (putBody 10 5000 5100)) markedTen) = some (replied 0x06 7 (.refused .cueInPass) markedTen) ∧
    nextOf (exec (.cuePut 7 (putBody 10 5000 5100)) stocked) =
      some (replied 0x06 7 (.cue (cueAt 10 5000 5100)) { stocked with cues := [cueAt 10 5000 5100, cueAt 11 3000 3100] }) ∧
    nextOf (exec (.cuePut 7 (putBody 9 5000 6000)) stocked) =
      some (replied 0x06 7 (.cue (cueAt 9 5000 6000)) { stocked with cues := cueAt 9 5000 6000 :: stocked.cues }) := by
  repeat' apply And.intro
  all_goals first | exact valueOf_gives_ok (by decide +kernel) | decide +kernel

/-- 1,024 cues. -/
def fullTable : State := { stocked with cues := (List.range 1024).map fun n => cueAt (n + 1) 2000 2100 }

theorem witness_CuePutStoresOrRefuses_full :
    fullTable.cues.length = 1024 ∧ (∀ c ∈ fullTable.cues, c.fields.id ≠ 2000) ∧
    nextOf (exec (.cuePut 7 (putBody 2000 5000 5100)) fullTable) =
      some (replied 0x06 7 (.refused .cueTableFull) fullTable) := by
  repeat' apply And.intro
  all_goals decide +kernel

/-- The body of a CUE-AMEND (R47). -/
def amendBody (sel : Byte) (id inPos outPos : Nat) : List Byte := 0 :: sel :: putBody id inPos outPos

theorem witness_CueAmendWritesTheSelectedFields :
    CanReply stocked ∧ CueTableSound stocked ∧ CanReply markedTen ∧ CueTableSound markedTen ∧
    readCueAmend .r24 (amendBody 1 10 2050 9) = .ok (selectOf 1, (cueAt 10 2050 9).fields) ∧
    (selectOf 1).inPos = true ∧ (selectOf 4).inPos = false ∧ (selectOf 4).outPos = false ∧
    nextOf (exec (.cueAmend 7 (amendBody 4 12 9 9)) stocked) = some (replied 0x07 7 (.refused .noSuchCue) stocked) ∧
    nextOf (exec (.cueAmend 7 (amendBody 4 10 9 9)) markedTen) =
      some (replied 0x07 7 (.cue { cueAt 10 2000 2100 with mark := some ⟨.bc1, false, true⟩ }) markedTen) ∧
    nextOf (exec (.cueAmend 7 (amendBody 1 10 2050 9)) markedTen) =
      some (replied 0x07 7 (.refused .cueInPass) markedTen) ∧
    nextOf (exec (.cueAmend 7 (amendBody 1 10 2100 9)) stocked) =
      some (replied 0x07 7 (.refused .badValue) stocked) ∧
    nextOf (exec (.cueAmend 7 (amendBody 1 10 999 9)) stocked) =
      some (replied 0x07 7 (.refused .offReel) stocked) ∧
    nextOf (exec (.cueAmend 7 (amendBody 1 10 2050 9)) stocked) =
      some (replied 0x07 7 (.cue (cueAt 10 2050 2100))
        { stocked with cues := [cueAt 10 2050 2100, cueAt 11 3000 3100] }) := by
  repeat' apply And.intro
  all_goals first | exact valueOf_gives_ok (by decide +kernel) | decide +kernel

theorem witness_CueDropRemovesAnIdleCue :
    CanReply (logged (takeIn .kept)) ∧ CueTableSound (logged (takeIn .kept)) ∧ readCueId [0, 10] = .ok 10 ∧
    cueAt 10 2000 2100 ∈ stocked.cues ∧ (takeIn .kept).state ∈ [TakeState.planned, .opened, .withdrawing, .kept] ∧
    nextOf (exec (.cueDrop 7 [0, 12]) stocked) = some (replied 0x08 7 (.refused .noSuchCue) stocked) ∧
    nextOf (exec (.cueDrop 7 [0, 10]) markedTen) = some (replied 0x08 7 (.refused .cueInPass) markedTen) ∧
    nextOf (exec (.cueDrop 7 [0, 10]) (logged (takeIn .kept))) =
      some (replied 0x08 7 (.refused .cueHasTakes) (logged (takeIn .kept))) ∧
    nextOf (exec (.cueDrop 7 [0, 10]) (logged (takeIn .failed))) =
      some (replied 0x08 7 (.cueId 10) { logged (takeIn .failed) with cues := [cueAt 11 3000 3100] }) := by
  repeat' apply And.intro
  all_goals first | exact valueOf_gives_ok (by decide +kernel) | decide +kernel

theorem witness_CueGetReportsTheWholeRecord :
    CanReply stocked ∧ CueTableSound stocked ∧ readCueId [0xFF, 0xFF] = .ok 65535 ∧
    cueAt 11 3000 3100 ∈ stocked.cues ∧
    nextOf (exec (.cueGet 7 [0xFF, 0xFF]) stocked) = some (replied 0x09 7 (.refused .noSuchCue) stocked) ∧
    nextOf (exec (.cueGet 7 [0, 11]) stocked) = some (replied 0x09 7 (.cue (cueAt 11 3000 3100)) stocked) := by
  repeat' apply And.intro
  all_goals first | exact valueOf_gives_ok (by decide +kernel) | decide +kernel

theorem witness_ListsReportWhatIsHeld :
    CanReply (logged (takeIn .kept)) ∧ readCueId [0, 11] = .ok 11 ∧ CueTableSound (logged (takeIn .kept)) ∧
    readTrackGet [5, 0, 1] = .ok (5, 1) ∧ readBooth [4] = .ok .bc4 ∧
    nextOf (exec (.reelList 7 []) stocked) = some (replied 0x03 7 (.reels [reelOne]) stocked) ∧
    nextOf (exec (.cueList 7 [0, 11]) stocked) = some (replied 0x0A 7 (.cues [cueAt 11 3000 3100] false) stocked) ∧
    nextOf (exec (.trackGet 7 [5, 0, 1]) (logged (takeIn .kept))) =
      some (replied 0x14 7 (.track 5 1 [⟨5, 1988, 2112, 1⟩] false) (logged (takeIn .kept))) ∧
    nextOf (exec (.trackGet 7 [5, 0, 2]) (logged (takeIn .kept))) =
      some (replied 0x14 7 (.track 5 1 [] false) (logged (takeIn .kept))) ∧
    nextOf (exec (.lineGet 7 [4]) stocked) = some (replied 0x1C 7 (.line (some ⟨0, .blank⟩)) stocked) := by
  repeat' apply And.intro
  all_goals first | exact valueOf_gives_ok (by decide +kernel) | decide +kernel

/-! ## Takes -/

theorem witness_TakeMarkCirclesClosedTakes :
    CanReply (logged (takeIn .kept)) ∧ SerialsSound (logged (takeIn .kept)) ∧
    readTakeMark [0, 1, 0, 0, 0, 1] = .ok (.set, [1]) ∧ readTakeMark [2, 1, 0, 0, 0, 1] = .ok (.invert, [1]) ∧
    readTakeMark [1, 1, 0, 0, 0, 1] = .ok (.clear, [1]) ∧
    nextOf (exec (.takeMarkSet 7 [0, 2, 0, 0, 0, 1, 0, 0, 0, 2]) (logged (takeIn .kept))) =
      some (replied 0x15 7 (.refusedTake .noSuchTake 2) (logged (takeIn .kept))) ∧
    nextOf (exec (.takeMarkInvert 7 [2, 1, 0, 0, 0, 1]) (logged (takeIn .opened))) =
      some (replied 0x15 7 (.refusedTake .notMarkable 1) (logged (takeIn .opened))) ∧
    nextOf (exec (.takeMarkClear 7 [1, 1, 0, 0, 0, 1]) (logged (takeIn .opened))) =
      some (replied 0x15 7 (.marks [(1, false)]) (logged (takeIn .opened))) ∧
    nextOf (exec (.takeMarkSet 7 [0, 1, 0, 0, 0, 1]) (logged (takeIn .kept))) =
      some (replied 0x15 7 (.marks [(1, true)]) (logged { takeIn .kept with circled := true })) := by
  repeat' apply And.intro
  all_goals first | exact valueOf_gives_ok (by decide +kernel) | decide +kernel

theorem witness_TakeDropReleasesAClosedTake :
    CanReply (logged (takeIn .kept)) ∧ SerialsSound (logged (takeIn .kept)) ∧ readSerial [0, 0, 0, 1] = .ok 1 ∧
    takeIn .kept ∈ (logged (takeIn .kept)).log.records ∧ (takeIn .kept).circled = false ∧
    nextOf (exec (.takeDrop 7 [0, 0, 0, 2]) (logged (takeIn .kept))) =
      some (replied 0x16 7 (.refused .noSuchTake) (logged (takeIn .kept))) ∧
    nextOf (exec (.takeDrop 7 [0, 0, 0, 1]) (logged (takeIn .withdrawing))) =
      some (replied 0x16 7 (.refused .takeLive) (logged (takeIn .withdrawing))) ∧
    nextOf (exec (.takeDrop 7 [0, 0, 0, 1]) (logged (takeIn .overwritten))) =
      some (replied 0x16 7 (.refused .wrongState) (logged (takeIn .overwritten))) ∧
    nextOf (exec (.takeDrop 7 [0, 0, 0, 1]) (logged { takeIn .aborted with circled := true })) =
      some (replied 0x16 7 (.refused .takeCircled) (logged { takeIn .aborted with circled := true })) ∧
    ((nextOf (exec (.takeDrop 7 [0, 0, 0, 1]) (logged (takeIn .kept)))).map (·.spans)) = some [] := by
  repeat' apply And.intro
  all_goals first | exact valueOf_gives_ok (by decide +kernel) | decide +kernel

theorem witness_LogSeekSetsTheBound :
    CanReply (logged (takeIn .kept)) ∧ SerialsSound (logged (takeIn .kept)) ∧
    nextOf (exec (.logSeekOldest 7 [0, 0, 0, 0, 0]) (logged (takeIn .kept))) =
      some (replied 0x17 7 (.seek (some 1)) (logged (takeIn .kept))) ∧
    nextOf (exec (.logSeekNewest 7 [1, 0, 0, 0, 0]) State.reset) = some (replied 0x17 7 (.seek none) State.reset) ∧
    ((nextOf (exec (.logSeekSerial 7 (2 :: beBytes 4 4294967295)) (logged (takeIn .kept)))).map (·.log.bound)) =
      some 4294967295 ∧
    nextOf (exec (.logSeekSerial 7 [2, 0, 0, 0, 0]) State.reset) =
      some (replied 0x17 7 (.refused .badValue) State.reset) := by
  repeat' apply And.intro
  all_goals decide +kernel

theorem witness_LogReadWalksTheLog :
    CanReply (logged (takeIn .kept)) ∧ SerialsSound (logged (takeIn .kept)) ∧ (8 : Byte).toNat ≤ 8 ∧
    8 < (9 : Byte).toNat ∧
    nextOf (exec (.logRead 7 [9]) State.reset) = some (replied 0x18 7 (.refused .badValue) State.reset) ∧
    nextOf (exec (.logRead 7 [0]) State.reset) = some (replied 0x18 7 (.refused .badValue) State.reset) ∧
    ((nextOf (exec (.logRead 7 [8]) (logged (takeIn .kept)))).map (·.log.bound)) = some 2 ∧
    ((nextOf (exec (.logRead 7 [1]) State.reset)).map (·.log.bound)) = some 1 := by
  repeat' apply And.intro
  all_goals decide +kernel

/-! ## Booth settings -/

/-- Booth settings at the ends of their ranges (R165). -/
def boothAtEnds : BoothSettings := ⟨7, 240, ⟨4, 60, 59⟩, .full, 3⟩

theorem witness_BoothSetAndFilter :
    CanReply (rolling .held .kept) ∧ CanReply State.reset ∧
    readBoothSet (1 :: settingsBytes boothAtEnds) = .ok (.bc1, boothAtEnds) ∧
    readBoothFilter [1, 2, 2, 0, 63] = .ok ⟨.bc1, .invert, [0, 63]⟩ ∧
    nextOf (exec (.boothSet 7 (1 :: settingsBytes boothAtEnds)) (rolling .held .kept)) =
      some (replied 0x19 7 (.refused .wrongState) (rolling .held .kept)) ∧
    nextOf (exec (.boothSet 7 (1 :: settingsBytes boothAtEnds)) State.reset) =
      some (replied 0x19 7 (.boothSettings boothAtEnds)
        (withBooth (fun v => { v with settings := boothAtEnds }) State.reset)) ∧
    nextOf (exec (.boothFilterInvert 7 [1, 2, 2, 63, 0]) (withBooth (fun v => { v with filter := [0, 5] }) State.reset)) =
      some (replied 0x1A 7 (.filter [5, 63]) (withBooth (fun v => { v with filter := [5, 63] }) State.reset)) ∧
    nextOf (exec (.boothFilterSet 7 [1, 0, 1, 4]) (withBooth (fun v => { v with filter := [0, 5] }) State.reset)) =
      some (replied 0x1A 7 (.filter [0, 4, 5]) (withBooth (fun v => { v with filter := [0, 4, 5] }) State.reset)) ∧
    nextOf (exec (.boothFilterClear 7 [1, 1, 1, 5]) (withBooth (fun v => { v with filter := [0, 5] }) State.reset)) =
      some (replied 0x1A 7 (.filter [0]) (withBooth (fun v => { v with filter := [0] }) State.reset)) := by
  repeat' apply And.intro
  all_goals first | exact valueOf_gives_ok (by decide +kernel) | decide +kernel

theorem witness_BoothGetReportsSettingsAndFilter :
    CanReply (rolling .rolling .opened) ∧
    nextOf (exec (.boothGet 7 [1]) (rolling .rolling .opened)) =
      some (replied 0x1B 7 (.booth (Booth.powerUp 0).settings []) (rolling .rolling .opened)) := by
  repeat' apply And.intro
  all_goals decide +kernel

/-! ## Passes and booth states -/

/-- A PASS-BUILD of the range form in RECORD and ONCE for booth 1 (R192). -/
def rangeBody (first last : Nat) : List Byte := [1, 1, 0, 5, 0] ++ beBytes 4 first ++ beBytes 4 last

/-- A PASS-BUILD of the list form in RECORD and ONCE for booth 1 (R192). -/
def listBody (ids : List Nat) : List Byte := [1, 1, 0, 5, 4, byteOf ids.length] ++ ids.flatMap (beBytes 2)

/-- The part after cue 10 and 11 are built into the staged pass of booth 1. -/
def builtBoth : State :=
  { withBooth (fun v => { v with staged := some { passOf [10, 11] with limit := 5 } }) stocked with
    cues := stocked.cues.map fun c => { c with mark := some ⟨.bc1, false, true⟩ } }

/-- Cue 10 marked for booth 2. -/
def otherMarked : State :=
  { stocked with cues := [{ cueAt 10 2000 2100 with mark := some ⟨.bc2, true, false⟩ }, cueAt 11 3000 3100] }

theorem witness_PassBuildSelectsAndStages :
    CanReply stocked ∧ CueTableSound stocked ∧
    readPassBuild .r24 (rangeBody 2000 3000) = .ok ⟨.bc1, .record, .once, 5, false, .range 2000 3000 false⟩ ∧
    readPassBuild .r24 (listBody [11, 10]) = .ok ⟨.bc1, .record, .once, 5, false, .list [11, 10]⟩ ∧
    nextOf (exec (.passBuildRange 7 (rangeBody 2000 3000)) stocked) =
      some (replied 0x0B 7 (.built .bc1 2 10 11 3112) builtBoth) ∧
    nextOf (exec (.passBuildList 7 (listBody [11, 10])) stocked) =
      some (replied 0x0B 7 (.built .bc1 2 10 11 3112) builtBoth) ∧
    nextOf (exec (.passBuildRange 7 (rangeBody 2001 2999)) stocked) =
      some (replied 0x0B 7 (.refused .passEmpty) stocked) ∧
    nextOf (exec (.passBuildList 7 (listBody [10, 12, 10])) stocked) =
      some (replied 0x0B 7 (.refusedCue .badValue 10) stocked) ∧
    nextOf (exec (.passBuildList 7 (listBody [10, 12])) stocked) =
      some (replied 0x0B 7 (.refusedCue .noSuchCue 12) stocked) ∧
    nextOf (exec (.passBuildList 7 (listBody [11, 10])) otherMarked) =
      some (replied 0x0B 7 (.refusedCue .cueInPass 10) otherMarked) ∧
    nextOf (exec (.passBuildList 7 (listBody [10, 11])) { stocked with cues := [cueAt 10 2000 2100, cueAt 11 2123 3100] }) =
      some (replied 0x0B 7 (.refusedOverlap 11 10)
        { stocked with cues := [cueAt 10 2000 2100, cueAt 11 2123 3100] }) := by
  repeat' apply And.intro
  all_goals first | exact valueOf_gives_ok (by decide +kernel) | decide +kernel

/-- Booth 1 with an active pass whose reach end lies below 0. -/
def earlyReach : State := withBooth (fun v => { v with active := some { passOf [10] with reachEnd := -5 } }) stocked

theorem witness_PassGetReportsAContext :
    CanReply builtBoth ∧ readPassGet [1, 1, 2] = .ok ⟨.bc1, true, 2⟩ ∧ readPassGet [1, 0, 128] = .ok ⟨.bc1, false, 128⟩ ∧
    nextOf (exec (.passGet 7 [1, 0, 128]) builtBoth) =
      some (replied 0x0C 7 (.pass ⟨none, [], false, some false⟩) builtBoth) ∧
    nextOf (exec (.passGet 7 [1, 1, 2]) builtBoth) =
      some (replied 0x0C 7
        (.pass ⟨some ⟨.record, .once, 5, 0, 2, some 1, 3112⟩, [⟨11, false, 0⟩], false, none⟩) builtBoth) ∧
    nextOf (exec (.passGet 7 [1, 0, 2]) earlyReach) =
      some (replied 0x0C 7
        (.pass ⟨some ⟨.record, .once, 0, 0, 1, some 1, 2073595⟩, [], false, some false⟩) earlyReach) := by
  repeat' apply And.intro
  all_goals first | exact valueOf_gives_ok (by decide +kernel) | decide +kernel

/-- Booth 1 in a state with both passes. -/
def twoPasses (st : BoothState) : State :=
  withBooth (fun v => { v with state := st, active := some (passOf [11]), staged := some (passOf [10]) }) stocked

theorem witness_PassCutoverSwapsThePasses :
    CanReply State.reset ∧ CanReply (twoPasses .held) ∧ (State.reset.booth .bc1).staged = none ∧
    ((twoPasses .held).booth .bc1).staged = some (passOf [10]) ∧ ((twoPasses .stopping).booth .bc1).state = .stopping ∧
    nextOf (exec (.passCutover 7 [1]) State.reset) = some (replied 0x0D 7 (.refused .noStaged) State.reset) ∧
    nextOf (exec (.passCutover 7 [1]) (twoPasses .stopping)) =
      some (replied 0x0D 7 (.cutover true) (withBooth (fun v => { v with cutPending := true }) (twoPasses .stopping))) ∧
    ((nextOf (exec (.passCutover 7 [1]) (twoPasses .held))).map (·.booths.q1.state)) = some .held ∧
    ((nextOf (exec (.passCutover 7 [1]) (twoPasses .done))).map (·.booths.q1.state)) = some .ready ∧
    ((nextOf (exec (.passCutover 7 [1]) (twoPasses .done))).map (·.booths.q1.active)) = some (some (passOf [10])) := by
  repeat' apply And.intro
  all_goals decide +kernel

theorem witness_PassDiscardEmptiesTheStagedPass :
    CanReply builtBoth ∧
    nextOf (exec (.passDiscard 7 [1]) builtBoth) = some (replied 0x0E 7 (.entryCount 2) stocked) := by
  repeat' apply And.intro
  all_goals decide +kernel

theorem witness_PassStopAndAbortByBoothState :
    CanReply State.reset ∧ CanReply (rolling .rolling .opened) ∧ CanReply (twoPasses .ready) ∧
    ((rolling .ready .opened).booth .bc1).cutPending = false ∧ openEntry .bc1 (rolling .rolling .planned) = none ∧
    openEntry .bc1 (rolling .rolling .opened) = some entryTen ∧
    nextOf (exec (.passStop 7 [1]) State.reset) = some (replied 0x0F 7 (.refused .wrongState) State.reset) ∧
    nextOf (exec (.passAbort 7 [1]) (twoPasses .done)) =
      some (replied 0x10 7 (.refused .wrongState) (twoPasses .done)) ∧
    nextOf (exec (.passStop 7 [1]) (twoPasses .stopping)) = some (replied 0x0F 7 (.stop true) (twoPasses .stopping)) ∧
    ((nextOf (exec (.passStop 7 [1]) (rolling .rolling .opened))).map (·.booths.q1.state)) = some .stopping ∧
    ((nextOf (exec (.passStop 7 [1]) (rolling .rolling .planned))).map (·.booths.q1.state)) = some .done ∧
    ((nextOf (exec (.passAbort 7 [1]) (rolling .stopping .opened))).map (·.booths.q1.window)) = some [] ∧
    ((rolling .stopping .opened).booth .bc1).lastTaken = some 2050 ∧
    ((nextOf (exec (.passAbort 7 [1]) (rolling .stopping .opened))).map (·.log)) =
      some (closeWindow .bc1 2050 none (rolling .stopping .opened)).log ∧
    ((nextOf (exec (.passAbort 7 [1]) (twoPasses .ready))).map (·.booths.q1.state)) = some .done := by
  repeat' apply And.intro
  all_goals decide +kernel

theorem witness_PassStopAndAbortByBoothState_notices :
    leaveNotices .bc1 .done .stop ((rolling .rolling .opened).booth .bc1) =
      [.boothState .bc1 .rolling .done .stop (some 0) (some 2)] ∧
    leaveNotices .bc1 .done .abort { (twoPasses .stopping).booth .bc1 with cutPending := true } =
      [.boothState .bc1 .stopping .done .abort (some 0) (some 1), .cutover .bc1 1 true,
        .boothState .bc1 .done .ready .cutover none none] ∧
    leaveNotices .bc1 .held .hold { (twoPasses .rolling).booth .bc1 with cutPending := true } =
      [.boothState .bc1 .rolling .held .hold none none, .cutover .bc1 1 true] ∧
    (rolling .rolling .opened).ctl.queue.length + ((rolling .rolling .opened).booth .bc1).window.length + 3 + 2 ≤
      queuePlaces ∧
    (State.reset.ctl.enabled.has .booth) = true := by
  decide +kernel

theorem witness_ClearHoldAndRelease :
    CanReply (twoPasses .ready) ∧ CanReply (rolling .rolling .opened) ∧
    nextOf (exec (.passClear 7 [1]) (twoPasses .held)) = some (replied 0x11 7 (.refused .wrongState) (twoPasses .held)) ∧
    ((nextOf (exec (.passClear 7 [1]) (twoPasses .done))).map (·.booths.q1.active)) = some none ∧
    nextOf (exec (.boothHold 7 [1]) (twoPasses .done)) = some (replied 0x12 7 (.refused .wrongState) (twoPasses .done)) ∧
    nextOf (exec (.boothHold 7 [1]) (twoPasses .held)) = some (replied 0x12 7 .ok (twoPasses .held)) ∧
    ((nextOf (exec (.boothHold 7 [1]) (twoPasses .ready))).map (·.booths.q1.state)) = some .held ∧
    ((nextOf (exec (.boothHold 7 [1]) (rolling .rolling .opened))).map (·.booths.q1.state)) = some .held ∧
    ((nextOf (exec (.boothHold 7 [1]) (rolling .rolling .opened))).map (·.spans)) = some [⟨5, 1988, 2051, 1⟩] ∧
    nextOf (exec (.boothRelease 7 [1]) (twoPasses .ready)) =
      some (replied 0x13 7 (.refused .wrongState) (twoPasses .ready)) ∧
    ((nextOf (exec (.boothRelease 7 [1]) (twoPasses .held))).map (·.booths.q1.state)) = some .ready := by
  repeat' apply And.intro
  all_goals decide +kernel

theorem witness_BoothTakesAnAnnouncementByItsState :
    ((twoPasses .held).booth .bc1).state ∈ [BoothState.empty, .held, .done] ∧
    ((twoPasses .ready).booth .bc1).active = some (passOf [11]) ∧
    (∀ e ∈ (passOf [11]).entries, entryKey .bc1 .record e.cue (twoPasses .ready) ≠ none) ∧
    ((boothAdvance .bc1 2986 true (twoPasses .ready)).2.booth .bc1).state = .rolling ∧
    ((boothAdvance .bc1 2987 true (twoPasses .ready)).2.booth .bc1).state = .ready ∧
    (passOf [11]).reachEnd ≤ ((3112 : Nat) : Int) ∧ ((3111 : Nat) : Int) < (passOf [11]).reachEnd ∧
    ((twoPasses .rolling).booth .bc1).window = [] ∧ (passOf [11]).entries ≠ [] ∧
    ((runOut .bc1 3112 (twoPasses .rolling)).booth .bc1).state = .ready ∧
    ((runOut .bc1 3111 (twoPasses .rolling)).booth .bc1).state = .rolling ∧
    ((rolling .stopping .opened).booth .bc1).window.length ≤ 2 ∧
    ((finishWork .bc1 workBound [.takeBreak 2050] (rolling .stopping .opened)).booth .bc1).state = .done := by
  repeat' apply And.intro
  all_goals decide +kernel

/-- A state with the chase unit LOCKED at the position before the OPEN of take 1. -/
def lockedAtOpen (s : State) : State :=
  { s with chase := { locked with lastPos := some 1987, lastAdvanced := some 1987 } }

/-- PLAY at 00:01:22:20, rate 24, the position of that OPEN (R196). -/
def openWord : List Byte := [0xA6, 0, 1, 22, 20, 0x10, 0xC5]

theorem witness_BoothTakesAnAnnouncementByItsState_words :
    ValidWord .r24 openWord .play 1988 ∧ ValidWord .r24 parkWord .park 86400 ∧
    ChaseSound (lockedAtOpen State.reset) ∧ Settled (lockedAtOpen State.reset) ∧
    ChaseSound (lockedAtOpen (rolling .rolling .planned)) ∧ Settled (lockedAtOpen (rolling .rolling .planned)) ∧
    continuesFrom .r24 (some 1987) 1988 = true ∧ (lockedAtOpen (rolling .rolling .planned)).link.flow = .hold ∧
    ((rolling .rolling .planned).booth .bc1).state ∈ [BoothState.ready, .rolling, .stopping] ∧
    (∀ d ∈ [BoothId.bc2, .bc3, .bc4], ((rolling .rolling .planned).booth d).state ∈ [BoothState.empty, .held, .done] ∧
      ((rolling .rolling .planned).booth d).window = []) ∧
    (((rolling .rolling .planned).booth .bc1).window.map (·.cueId)).Nodup ∧
    ((nextOf (exec (.positionWord openWord) (lockedAtOpen State.reset))).map (·.booths.q4.lastTaken)) =
      some (some 1988) ∧
    ((nextOf (exec (.positionWord openWord) (lockedAtOpen (rolling .rolling .planned)))).map (takeStateOf 1)) =
      some (some .opened) ∧
    ((nextOf (exec (.positionWord openWord) (lockedAtOpen (rolling .rolling .planned)))).map
      (·.lines.q2.waiting.map (·.display))) = some (some (some 1989)) ∧
    ((nextOf (exec (.positionWord parkWord) (lockedAtOpen (rolling .rolling .planned)))).map
      (fun t => (takeStateOf 1 t, (t.booth .bc1).state))) = some (some .withdrawing, .ready) := by
  refine ⟨validWord_gives_ValidWord _ _ _ _ (by decide +kernel), validWord_gives_ValidWord _ _ _ _ (by decide +kernel), ?_⟩
  repeat' apply And.intro
  all_goals decide +kernel

theorem witness_BoothTakesAnAnnouncementByItsState_pieces :
    (∃ x ∈ entryTen.events, x.kind = .opening ∧ x.state = .pending ∧ x.actAt = ((1988 : Nat) : Int)) ∧
    runTask .bc1 (.event 1989 true 10 .opening) (rolling .rolling .planned) = ([], rolling .rolling .planned) ∧
    runTask .bc1 (.event 1988 true 10 .opening) (rolling .rolling .planned) =
      ([], eventTaken .bc1 entryTen .opening 1988 true (rolling .rolling .planned)) ∧
    (runTask .bc1 (.report 1988) (awaiting (awaitingOf (.punchIn 5 1988) 0x0042)
      (rolling .rolling .planned))).2.link.awaiting.map (·.order.reached) = [true] := by
  decide +kernel

/-! ## Cue window, takes and tracks -/

/-- A snapshot with four beeps and a full guide. -/
def fullSnap : Snapshot :=
  { entryTen.snap with beep := ⟨4, 6, 5⟩, guide := .full }

theorem witness_WindowEventsOfAnEntry :
    fullSnap.beep.count ≤ 4 ∧ fullSnap.beep.length ≤ fullSnap.beep.spacing ∧ fullSnap.inPos < fullSnap.outPos ∧
    (⟨.punchIn, 1988, 1986, .pending⟩ : WinEvent) ∈ eventsOf .record fullSnap none ∧
    (⟨.beepOff 4, 1999, 1998, .pending⟩ : WinEvent) ∈ eventsOf .record fullSnap none ∧
    (⟨.guideOff, 2100, 2099, .pending⟩ : WinEvent) ∈ eventsOf .rehearse fullSnap none ∧
    (⟨.ending, 2000, 2000, .pending⟩ : WinEvent) ∈ eventsOf .review fullSnap (some ⟨1, 1, 5, 1988, 2112⟩) ∧
    (eventsOf .record fullSnap none).length = 19 ∧ endDue .record fullSnap none = 2112 ∧
    endDue .review fullSnap (some ⟨1, 1, 5, 2001, 2112⟩) = 2001 ∧ keyActAt .rehearse fullSnap none = 1999 ∧
    SnapshotIs .bc1 .record (cueAt 10 2000 2100) stocked entryTen.snap ∧
    entryKey .bc1 .record 10 stocked = some 1986 ∧ cueEnd .bc1 .record (cueAt 10 2000 2100) stocked = 2112 ∧
    entryKey .bc1 .review 10 (logged { takeIn .kept with plannedStart := 2001 }) = some 1999 ∧
    entryKey .bc1 .record 12 stocked = none ∧
    dueEvents 1999 [{ entryTen with cueId := 9, events := eventsOf .record fullSnap none }, entryTen] =
      [(9, .streamerOff), (10, .streamerOff), (10, .guideOff), (9, .lampOn), (10, .lampOn)] := by
  repeat' apply And.intro
  all_goals decide +kernel

/-- A claim for cue 10 that meets the span of take 1 on track 5. -/
def claimTen : Claim := ⟨.bc1, 10, 1988, 2112, [5, 6]⟩

/-- A full span pool. -/
def fullPool : State :=
  { stocked with spans := (List.range 1024).map fun n => ⟨7, 200 * n, 200 * n + 1, n + 1⟩ }

theorem witness_ClaimsReclaimsAndAdmissions :
    claimTen.tracks = [5] ++ 6 :: [] ∧ (logged (takeIn .kept)).spans.length < 1024 ∧
    (logged (takeIn .kept)).log.counter ≤ 4294967295 ∧
    (∀ x ∈ (logged (takeIn .kept)).spans, x.track = 6 → x.stop ≤ 1988 ∨ 2112 ≤ x.start) ∧
    (∃ x ∈ (logged (takeIn .kept)).spans, x.track = 5 ∧ x.start < 2112 ∧ 1988 < x.stop) ∧
    1024 ≤ fullPool.spans.length ∧ SerialsSound (logged (takeIn .kept)) ∧
    isCandidate (logged (takeIn .kept)).spans ⟨.bc1, 10, 1988, 2112, [5]⟩ (takeIn .kept) = true ∧
    isCandidate (logged (takeIn .opened)).spans ⟨.bc1, 10, 1988, 2112, [5]⟩ (takeIn .opened) = false ∧
    (takeClaim claimTen 1 fullPool).1 = .failed .spanPoolFull ∧
    (takeClaim claimTen 100 stocked).1 = .failed .takesExhausted ∧
    (takeClaim claimTen 2 (logged (takeIn .kept))).2.spans = [⟨5, 1988, 2112, 1⟩, ⟨6, 1988, 2112, 2⟩] ∧
    (takeClaim ⟨.bc1, 10, 1988, 2112, [5]⟩ 2 (logged (takeIn .opened))).1 = .failed .noTrack ∧
    Reclaimable ⟨.bc1, 10, 1988, 2112, [5]⟩ (logged (takeIn .kept)) (takeIn .kept) ∧
    (takeClaim ⟨.bc1, 10, 1988, 2112, [5]⟩ 2 (logged (takeIn .kept))).2.spans = [⟨5, 1988, 2112, 2⟩] ∧
    (takeClaim ⟨.bc1, 10, 1988, 2112, [5]⟩ 2 (logged (takeIn .kept))).2.log.records.map (·.state) =
      [.overwritten, .planned] := by
  repeat' apply And.intro
  all_goals decide +kernel

/-- Booth 1 rolling a pass of cue 11 in a mode, with live entries of cue 10 that close at a position. -/
def admitting (mode : Mode) (closes : List Nat) : State :=
  withBooth (fun v => { v with
    state := .rolling, active := some { passOf [11] with mode := mode }
    window := closes.map fun n => { entryTen with snap := { entryTen.snap with outPos := n } } }) stocked

/-- The step-over of cue 11, the only entry of its pass. -/
def overEleven (r : StepReason) (p : Nat) (s : State) : List Task × State :=
  ([.admission p true],
    { withBooth (fun v => { v with active := v.active.map fun ctx => { ctx with cursor := none } }) s with
      posted := s.posted ++ [⟨.booth .bc1, noticeFrame (.cue .bc1 11 r p)⟩] })

theorem witness_ClaimsReclaimsAndAdmissions_admissions :
    SerialsSound (admitting .record []) ∧ CueTableSound (admitting .record []) ∧
    (passOf [11]).entries = [] ++ ⟨11, false, 0⟩ :: [] ∧ cueAt 11 3000 3100 ∈ (admitting .record []).cues ∧
    playedOf .review 11 (admitting .review []) = none ∧
    consider .bc1 2987 true (admitting .record [2100, 2200]) = overEleven .crowded 2987 (admitting .record [2100, 2200]) ∧
    consider .bc1 2986 true (admitting .record [2100, 2200]) = ([], admitting .record [2100, 2200]) ∧
    consider .bc1 2986 true (admitting .review []) = overEleven .noTake 2986 (admitting .review []) ∧
    consider .bc1 2987 true (admitting .record []) = overEleven .late 2987 (admitting .record []) ∧
    consider .bc1 2986 true (admitting .record [2977]) = overEleven .clash 2986 (admitting .record [2977]) ∧
    consider .bc1 2926 true (admitting .record [2976]) = ([], admitting .record [2976]) ∧
    ((consider .bc1 2986 true (admitting .record [2976])).2.booth .bc1).window.map
      (fun e => (e.cueId, e.take.map (·.serial), e.gates.streamer)) = [(10, some 1, false), (11, some 1, true)] ∧
    (consider .bc1 2986 true (admitting .record [])).1 = [.event 2986 true 11 .punchIn, .admission 2986 true] ∧
    ((consider .bc1 2999 true (admitting .rehearse [])).2.booth .bc1).window.map (·.take) = [none] ∧
    consider .bc1 2986 true { admitting .record [] with spans := fullPool.spans } =
      overEleven .spanPoolFull 2986 { admitting .record [] with spans := fullPool.spans } := by
  repeat' apply And.intro
  all_goals decide +kernel

/-- Booth 1 rolling with its PUNCH-IN in the start lane. -/
def punchWaits : State :=
  { rolling .rolling .planned with
    link := { (rolling .rolling .planned).link with startLane := [orderOf (.punchIn 5 1988) 0x0042] } }

theorem witness_TakeEventsMoveTheTake :
    SerialsSound (rolling .rolling .planned) ∧ entryTen.take = some ⟨1, 1⟩ ∧
    takeIn .planned ∈ (rolling .rolling .planned).log.records ∧ (rolling .rolling .planned).link.startLane.length < 4 ∧
    SerialsSound punchWaits ∧ punchInWaits 1 punchWaits = true ∧ punchInWaits 1 (rolling .rolling .planned) = false ∧
    takeIn .opened ∈ (rolling .rolling .opened).log.records ∧
    takeStateOf 1 (eventTaken .bc1 entryTen .punchIn 1986 false (rolling .rolling .planned)) = some .failed ∧
    (eventTaken .bc1 entryTen .punchIn 1986 true (rolling .rolling .planned)).link.startLane =
      [⟨.punchIn 5 1988, 0, some .bc1, some 1, none, some 1986, false⟩] ∧
    takeStateOf 1 (eventTaken .bc1 entryTen .opening 1988 true punchWaits) = some .failed ∧
    takeStateOf 1 (eventTaken .bc1 entryTen .opening 1988 true (rolling .rolling .planned)) = some .opened ∧
    (eventTaken .bc1 entryTen .punchOut 2110 true (rolling .rolling .opened)).link.stopLane =
      [⟨.punchOut 5 2112, 0, some .bc1, some 1, none, some 2110, false⟩] ∧
    takeStateOf 1 (eventTaken .bc1 entryTen .closing 2112 true (rolling .rolling .opened)) = some .kept := by
  repeat' apply And.intro
  all_goals decide +kernel

/-- A pass of cue 10 alone is active in booth 1, with a take limit, a policy and cue 10 live. -/
def ending (st : BoothState) (policy : Policy) (limit : Nat) (t : TakeState) : State :=
  withBooth (fun v => { v with active := some { passOf [10] with policy := policy, limit := limit } }) (rolling st t)

/-- A full start lane in which no start was raised at 1986. -/
def busyLane : State :=
  { rolling .rolling .planned with
    link := { (rolling .rolling .planned).link with
      startLane := List.replicate 4 ⟨.punchIn 9 1985, 1, some .bc2, some 9, none, some 1985, false⟩ } }

/-- The entry of cue 10 in REVIEW, with take 1 to be played. -/
def reviewTen : LiveEntry :=
  admittedEntry 10 .review entryTen.snap (some ⟨1, 1, 5, 1988, 2112⟩) none 1940

theorem witness_TakeEventsMoveTheTake_ends :
    4 ≤ busyLane.link.startLane.length ∧ (∀ o ∈ busyLane.link.startLane, o.raisedAt ≠ some 1986) ∧
    (busyLane.booth .bc1).window = [entryTen] ∧
    (eventTaken .bc1 entryTen .punchIn 1986 true busyLane).log.records = [{ takeIn .failed with reason := some .queueFull }] ∧
    ((eventTaken .bc1 entryTen .punchIn 1986 true busyLane).booth .bc1).window = [] ∧
    (eventTaken .bc1 entryTen .punchIn 1986 false (rolling .rolling .planned)).log.records =
      [{ takeIn .failed with reason := some .freewheel }] ∧
    (eventTaken .bc1 entryTen .punchOut 2110 false punchWaits).log.records =
      [{ takeIn .failed with reason := some .lateIn }] ∧
    (eventTaken .bc1 entryTen .punchOut 2110 false (rolling .rolling .planned)).link.stopLane.length = 1 ∧
    (eventTaken .bc1 entryTen .opening 1988 true (rolling .rolling .kept)).booths =
      entryChanged .bc1 10 (marked .opening .void) (rolling .rolling .kept) ∧
    ((eventTaken .bc1 entryTen .closing 2112 false (ending .rolling .repeated 1 .opened)).booth .bc1).state = .done ∧
    ((eventTaken .bc1 entryTen .closing 2112 false (ending .rolling .repeated 2 .opened)).booth .bc1).state = .rolling ∧
    ((eventTaken .bc1 entryTen .closing 2112 false (ending .stopping .once 0 .opened)).booth .bc1).state = .done ∧
    (eventTaken .bc1 reviewTen .play 1986 true (rolling .rolling .planned)).link.startLane.map (·.body) =
      [.play 5 1988 2112] ∧
    ((eventTaken .bc1 reviewTen .play 1986 true busyLane).booth .bc1).window = [] ∧
    passCues ((eventTaken .bc1 entryTen .ending 2112 true (ending .rolling .repeated 0 .kept)).booth .bc1).active = [10] ∧
    passCues ((eventTaken .bc1 entryTen .ending 2112 true (rolling .rolling .kept)).booth .bc1).active = [11] ∧
    ((eventTaken .bc1 entryTen .ending 2112 true (ending .rolling .once 0 .kept)).booth .bc1).state = .done := by
  repeat' apply And.intro
  all_goals decide +kernel

theorem witness_ClosingDealsWithTheTake :
    SerialsSound (rolling .rolling .opened) ∧ SerialsSound punchWaits ∧ entryTen.take = some ⟨1, 1⟩ ∧
    (takeIn .opened).plannedStart < min (takeIn .opened).plannedEnd (1988 + 1) ∧ punchInWaits 1 punchWaits = true ∧
    punchInWaits 1 (rolling .rolling .planned) = false ∧ entryTen.startTag = some 0x0042 ∧
    (takeIn .kept).state ∉ [TakeState.planned, .opened] ∧
    (closeTakeOf .bc1 entryTen 1988 none (rolling .rolling .opened)).spans = [⟨5, 1988, 1989, 1⟩] ∧
    takeStateOf 1 (closeTakeOf .bc1 entryTen 1987 none punchWaits) = some .failed ∧
    (closeTakeOf .bc1 entryTen 1987 none punchWaits).posted =
      [⟨.takeLog, noticeFrame (.take .state { takeIn .failed with reason := some .broken })⟩] ∧
    takeStateOf 1 (closeTakeOf .bc1 entryTen 1987 none (rolling .rolling .planned)) = some .withdrawing ∧
    takeStateOf 1 (closeTakeOf .bc1 entryTen 1987 none (rolling .rolling .kept)) = some .kept := by
  repeat' apply And.intro
  all_goals decide +kernel

/-- Booth 1 with the live entry of cue 10 in REVIEW, its PLAY sent, beside the entry of cue 11. -/
def playing : State :=
  withBooth (fun v => { v with
    window := [{ reviewTen with startTag := some 7 }, { reviewTen with cueId := 11 }] }) (rolling .rolling .kept)

theorem witness_ClosingDealsWithTheTake_windows :
    reviewTen.played ≠ none ∧ reviewTen.startTag = none ∧ (playing.booth .bc1).lastTaken = some 2050 ∧
    (∀ o ∈ playing.link.startLane, o.body.kind ≠ .play) ∧
    (closePlayOf .bc1 { reviewTen with startTag := some 7 } none playing).link.stopLane.map (·.body) = [.cancel 7] ∧
    (closePlayOf .bc1 { reviewTen with startTag := some 7 } none
      { playing with link := { playing.link with
        startLane := [⟨.play 5 1988 2112, 7, some .bc1, none, some 10, some 1986, false⟩] } }).link = playing.link ∧
    closePlayOf .bc1 reviewTen none playing = playing ∧
    closeWindow .bc1 2050 none stocked = stocked ∧
    closeWindow .bc1 2050 none (rolling .rolling .opened) =
      closeEntry .bc1 2050 none entryTen (rolling .rolling .opened) ∧
    ((closeWindow .bc1 2050 none playing).booth .bc1).window = [] ∧
    (closeOthers .bc1 { reviewTen with cueId := 11 } playing).link.stopLane.map (·.body) = [.cancel 7] := by
  repeat' apply And.intro
  all_goals decide +kernel

/-! ## Recorder link -/

/-- A PUNCH-IN of a booth raised at a position. -/
def startOf (b : BoothId) (tag : Tag) (p : Nat) : Order :=
  ⟨.punchIn 9 p, tag, some b, some 9, none, some p, false⟩

/-- Booth 1 rolling and a full start lane, two of its starts raised at 1986. -/
def fullLane : State :=
  { rolling .rolling .planned with
    link := { (rolling .rolling .planned).link with
      startLane := [startOf .bc1 1 1985, startOf .bc3 2 1986, startOf .bc2 3 1986, startOf .bc1 4 1985] } }

theorem witness_StartLaneAndTags :
    (rolling .rolling .planned).link.startLane.length < 4 ∧ 4 ≤ fullLane.link.startLane.length ∧
    fullLane.link.startLane = [startOf .bc1 1 1985] ++ startOf .bc3 2 1986 :: [startOf .bc2 3 1986, startOf .bc1 4 1985] ∧
    (fullLane.link.startLane.map (·.tag)).Nodup ∧ rankOf .bc1 fullLane < (startOf .bc3 2 1986).rank fullLane ∧
    (∀ o ∈ fullLane.link.startLane, o.raisedAt = some 1984 → o.rank fullLane ≤ rankOf .bc1 fullLane) ∧
    (heldTags fullLane.link).length < 65536 ∧
    (raiseStart .bc1 entryTen (.punchIn 5 1988) 1986 fullLane).link.startLane.map (·.tag) = [1, 3, 4, 0] ∧
    (raiseStart .bc1 entryTen (.punchIn 5 1988) 1984 fullLane).link.startLane = fullLane.link.startLane ∧
    ((raiseStart .bc1 entryTen (.punchIn 5 1988) 1984 fullLane).booth .bc1).window = [] := by
  repeat' apply And.intro
  all_goals decide +kernel

/-- The entry and the PLANNED take of booth 3 whose PUNCH-IN stands in the full lane. -/
def entryNine : LiveEntry := { entryTen with take := some ⟨9, 1⟩ }

/-- The full lane with that entry live in booth 3. -/
def ownedLane : State :=
  { fullLane with
    booths := fullLane.booths.set .bc3 { fullLane.booth .bc3 with state := .rolling, window := [entryNine] }
    log := ⟨[takeIn .planned, { takeIn .planned with serial := 9, booth := .bc3 }], 10, 1⟩ }

theorem witness_StartLaneAndTags_displaced :
    SerialsSound ownedLane ∧ entryNine.owns .bc3 (startOf .bc3 2 1986) = true ∧
    (∀ x ∈ (fullLane.booth .bc3).window, x.owns .bc3 (startOf .bc3 2 1986) = false) ∧
    ((raiseStart .bc1 entryTen (.punchIn 5 1988) 1986 ownedLane).link.startLane.getLast?) =
      some ⟨.punchIn 5 1988, 0, some .bc1, some 1, none, some 1986, false⟩ ∧
    takeStateOf 9 (raiseStart .bc1 entryTen (.punchIn 5 1988) 1986 ownedLane) = some .failed ∧
    ((raiseStart .bc1 entryTen (.punchIn 5 1988) 1986 ownedLane).booth .bc3).window = [] ∧
    (raiseStart .bc1 entryTen (.punchIn 5 1988) 1986 ownedLane).posted.map (·.source) = [.takeLog, .booth .bc3] := by
  repeat' apply And.intro
  all_goals decide +kernel

theorem witness_StrayAnswersAndFlowWords :
    Settled State.reset ∧ State.reset.stage.rate.perDay ≤ (2073600 : Word32).toNat ∧ findAwaiting 7 State.reset = none ∧
    readMessage [] = none ∧ Flow.ready ≠ State.reset.link.flow ∧
    nextOf (exec (.done 7 5) State.reset) = some (noticed .recorder (.recStray (some 7) (some .done)) State.reset) ∧
    nextOf (exec (.refused 7 .tooLate) State.reset) =
      some (noticed .recorder (.recStray (some 7) (some .refused)) State.reset) ∧
    nextOf (exec (.unreadableMessage []) State.reset) = some (noticed .recorder (.recStray none none) State.reset) ∧
    nextOf (exec (.flow .hold) State.reset) = some State.reset ∧
    nextOf (exec (.flow .ready) State.reset) =
      some (noticed .recorder (.recFlow .ready)
        { State.reset with link := { State.reset.link with flow := .ready } }) := by
  repeat' apply And.intro
  all_goals decide +kernel

/-- The state of take 1 with an order for it in the awaiting list. -/
def answering (body : OrderBody) (t : TakeState) : State := awaiting (awaitingOf body 0x0042) (logged (takeIn t))

theorem witness_DoneFillsInTheTake :
    Settled (answering (.punchIn 5 1988) .opened) ∧ SerialsSound (answering (.punchIn 5 1988) .opened) ∧
    (2073599 : Word32).toNat < StageRate.r24.perDay ∧
    findAwaiting 0x0042 (answering (.punchIn 5 1988) .opened) = some (awaitingOf (.punchIn 5 1988) 0x0042) ∧
    (takeIn .withdrawing) ∈ (answering (.cancel 0x0041) .withdrawing).log.records ∧
    ((nextOf (exec (.done 0x0042 1990) (answering (.punchIn 5 1988) .opened))).map (·.log.records)) =
      some [{ takeIn .opened with recIn := some 1990 }] ∧
    ((nextOf (exec (.done 0x0042 2113) (answering (.punchOut 5 2112) .kept))).map (·.log.records)) =
      some [{ takeIn .kept with recOut := some 2113, flags := ⟨false, false, true⟩ }] ∧
    ((nextOf (exec (.done 0x0042 2113) (answering (.punchOutNow 5) .kept))).map (·.log.records)) =
      some [{ takeIn .kept with recOut := some 2113 }] ∧
    ((nextOf (exec (.done 0x0042 1) (answering (.cancel 0x0041) .withdrawing))).map (·.log.records)) =
      some [{ takeIn .failed with reason := some .broken }] ∧
    ((nextOf (exec (.done 0x0042 1) (answering .haltAll .kept))).map (·.log.records)) = some [takeIn .kept] := by
  repeat' apply And.intro
  all_goals decide +kernel

theorem witness_DoneFillsInTheTake_notices :
    ((nextOf (exec (.done 0x0042 1990) (answering (.punchIn 5 1988) .kept))).map (·.ctl)) =
      some (State.reset.ctl.placeNotice .take (noticeFrame (.take .update { takeIn .kept with recIn := some 1990 }))) ∧
    ((nextOf (exec (.done 0x0042 2113) (awaiting (awaitingOf (.punchOut 5 2112) 0x0042)
      (logged { takeIn .kept with recOut := some 2100, flags := ⟨false, false, true⟩ })))).map (·.ctl)) =
      some State.reset.ctl ∧
    ((nextOf (exec (.done 0x0042 1990) (answering (.punchIn 5 1988) .opened))).map (·.ctl)) = some State.reset.ctl := by
  decide +kernel

theorem witness_RefusedAnswersByOrderKind :
    Settled (answering (.punchIn 5 1988) .planned) ∧ SerialsSound (answering (.punchIn 5 1988) .planned) ∧
    findAwaiting 0x0042 (answering (.punchIn 5 1988) .planned) = some (awaitingOf (.punchIn 5 1988) 0x0042) ∧
    (takeIn .planned) ∈ (answering (.punchIn 5 1988) .planned).log.records ∧ (takeIn .planned).state.isLive = true ∧
    ((nextOf (exec (.refused 0x0042 .tooLate) (answering (.punchIn 5 1988) .planned))).map (·.log.records)) =
      some [{ takeIn .failed with reason := some .refused }] ∧
    ((nextOf (exec (.refused 0x0042 .tooLate) (answering (.punchIn 5 1988) .kept))).map (·.log.records)) =
      some [takeIn .kept] ∧
    ((nextOf (exec (.refused 0x0042 .tooLate) (answering (.punchOut 5 2112) .kept))).map (·.log.records)) =
      some [{ takeIn .kept with flags := ⟨false, true, false⟩ }] ∧
    ((nextOf (exec (.refused 0x0042 .tooLate) (answering (.cancel 0x0041) .withdrawing))).map (·.log.records)) =
      some [{ takeIn .truncated with spanEnd := some 2051 }] ∧
    ((nextOf (exec (.refused 0x0042 .tooLate) (answering (.cancel 0x0041) .withdrawing))).map
      (·.link.stopLane.map (·.body))) = some [.punchOutNow 5] ∧
    ((nextOf (exec (.refused 0x0042 .tooLate) (answering (.cancel 0x0041) .withdrawing))).map (·.spans)) =
      some [⟨5, 1988, 2051, 1⟩] ∧
    (answering (.punchIn 5 1988) .planned).ctl.queue.length ≤ 8 ∧
    (answering (.punchIn 5 1988) .planned).ctl.enabled.has .recorder = true := by
  repeat' apply And.intro
  all_goals decide +kernel

theorem witness_RefusedAnswersByOrderKind_entries :
    holderOf .bc1 1 (rolling .rolling .planned) = some entryTen ∧
    ((nextOf (exec (.refused 0x0042 .tooLate) (awaiting (awaitingOf (.punchIn 5 1988) 0x0042)
      (rolling .rolling .opened)))).map (fun t => (t.booth .bc1).window.map (·.cueId))) = some [10] ∧
    ((nextOf (exec (.refused 0x0042 .tooLate) (awaiting (awaitingOf (.punchIn 5 1988) 0x0042)
      (rolling .stopping .opened)))).map (fun t => ((t.booth .bc1).window, (t.booth .bc1).state))) = some ([], .done) ∧
    (takeIn .kept).state.isLive = false ∧ (takeIn .kept).flags.unconfirmedOut = false ∧
    (answering (.punchOut 5 2112) .kept).ctl.enabled.has .take = true ∧
    ((nextOf (exec (.refused 0x0042 .tooLate) (awaiting (awaitingOf (.punchOut 5 2112) 0x0042)
      (logged { takeIn .kept with flags := ⟨false, true, false⟩ })))).map (·.ctl)) =
      some (State.reset.ctl.placeNotice .recorder
        (noticeFrame (.recRefused 0x0042 .punchOut .tooLate (some .bc1) (some 1)))) := by
  repeat' apply And.intro
  all_goals decide +kernel

/-- Booth 1 rolling, the flow READY, with lanes given. -/
def readyLink (stops starts : List Order) (wait : List Awaiting) : State :=
  { rolling .rolling .planned with
    link := { RecLink.powerUp with flow := .ready, stopLane := stops, startLane := starts, awaiting := wait } }

theorem witness_LinkSendsStopsBeforeStarts :
    Settled (readyLink [] [] []) ∧ (readyLink [] [] []).link.transmitter = none ∧
    takeIsLive 1 (readyLink [] [orderOf (.punchIn 5 1988) 1] []) = true ∧
    16 ≤ (List.replicate 16 (awaitingOf .haltAll 9)).length ∧
    (∀ x ∈ List.replicate 16 (awaitingOf .haltAll 9), x.stage = .running) ∧
    nextOf (exec .beginSend State.reset) = some State.reset ∧
    nextOf (exec .beginSend (readyLink [] [] [])) = some (readyLink [] [] []) ∧
    nextOf (exec .beginSend (readyLink [orderOf .haltAll 2] [] (List.replicate 16 (awaitingOf .haltAll 9)))) =
      some (readyLink [orderOf .haltAll 2] [] (List.replicate 16 (awaitingOf .haltAll 9))) ∧
    ((nextOf (exec .beginSend (readyLink [orderOf .haltAll 2] [orderOf (.punchIn 5 1988) 1] []))).map
      (·.link.transmitter)) = some (some (orderOf .haltAll 2)) ∧
    ((nextOf (exec .beginSend (readyLink [] [orderOf (.punchIn 5 1988) 1] []))).map (·.link.outstanding)) =
      some [.punchIn .bc1 1] ∧
    ((nextOf (exec .beginSend (readyLink [orderOf .haltAll 2] []
        ({ awaitingOf .haltAll 8 with stage := .expired } :: List.replicate 15 (awaitingOf .haltAll 9))))).map
      (·.link.awaiting.length)) = some 16 := by
  repeat' apply And.intro
  all_goals decide +kernel

/-- The PLAY of the live entry of cue 10 with its tag. -/
def playOrder : Order := ⟨.play 5 1988 2112, 7, some .bc1, none, some 10, some 1986, false⟩

theorem witness_LinkSendsStopsBeforeStarts_play :
    (∃ e ∈ (playing.booth .bc1).window, e.cueId = 10 ∧ e.startTag = some playOrder.tag) ∧
    ((nextOf (exec .beginSend
      { playing with link := { RecLink.powerUp with flow := .ready, startLane := [playOrder] } })).map
      (·.link.outstanding)) = some [.play .bc1 10 7] := by
  decide +kernel

/-- The link sending an order whose named frame is reached or not. -/
def transmitting (reached : Bool) : State :=
  { State.reset with
    link := { RecLink.powerUp with
      transmitter := some (orderOf (.punchIn 5 1988) 1)
      awaiting := [⟨{ orderOf (.punchIn 5 1988) 1 with reached := reached }, .running, false, .stopped⟩] } }

theorem witness_LinkSendsStopsBeforeStarts_end :
    Settled (transmitting true) ∧ (transmitting true).link.transmitter = some (orderOf (.punchIn 5 1988) 1) ∧
    ((nextOf (exec .orderTransmissionEnd (transmitting true))).map (·.link.awaiting.map (·.timer))) =
      some [.running 16 .r24] ∧
    ((nextOf (exec .orderTransmissionEnd (transmitting false))).map (·.link.awaiting.map (·.timer))) =
      some [.stopped] := by
  repeat' apply And.intro
  all_goals decide +kernel

theorem witness_AwaitingExpiryReportsSilence :
    Settled (answering (.punchIn 5 1988) .opened) ∧ SerialsSound (answering (.punchIn 5 1988) .opened) ∧
    findAwaiting 0x0042 (answering (.punchIn 5 1988) .opened) = some (awaitingOf (.punchIn 5 1988) 0x0042) ∧
    (awaitingOf (.punchIn 5 1988) 0x0042).stage = .running ∧ (awaitingOf (.punchIn 5 1988) 0x0042).timer ≠ .stopped ∧
    (takeIn .withdrawing).closing = some 2050 ∧ (takeIn .withdrawing).plannedStart < min 2112 (2050 + 1) ∧
    ((nextOf (exec (.awaitingExpiry 0x0042) (answering (.punchIn 5 1988) .opened))).map (·.log.records)) =
      some [{ takeIn .opened with flags := ⟨true, false, false⟩ }] ∧
    ((nextOf (exec (.awaitingExpiry 0x0042) (answering (.punchOutNow 5) .truncated))).map (·.log.records)) =
      some [{ takeIn .truncated with flags := ⟨false, true, false⟩ }] ∧
    ((nextOf (exec (.awaitingExpiry 0x0042) (answering (.cancel 0x0041) .withdrawing))).map (·.log.records)) =
      some [{ takeIn .truncated with spanEnd := some 2051 }] ∧
    ((nextOf (exec (.awaitingExpiry 0x0042) (awaiting (awaitingOf (.cancel 0x0041) 0x0042)
        (logged { takeIn .withdrawing with closing := some 1987 })))).map (·.log.records)) =
      some [{ takeIn .truncated with flags := ⟨false, true, false⟩ }] := by
  repeat' apply And.intro
  all_goals decide +kernel

theorem witness_AwaitingExpiryReportsSilence_notices :
    (takeIn .kept).state.isLive = false ∧ (takeIn .kept).flags.unconfirmedIn = false ∧
    (answering (.punchIn 5 1988) .kept).ctl.queue.length ≤ 8 ∧
    (answering (.punchIn 5 1988) .kept).ctl.enabled.has .take = true ∧
    ((nextOf (exec (.awaitingExpiry 0x0042) (answering (.cancel 0x0041) .failed))).map (fun t => (t.log, t.ctl))) =
      some ((logged (takeIn .failed)).log, State.reset.ctl.placeNotice .recorder
        (noticeFrame (.recSilent 0x0042 .cancel (some .bc1) (some 1)))) ∧
    ((nextOf (exec (.awaitingExpiry 0x0042) (answering (.punchIn 5 1988) .opened))).map (·.ctl)) =
      some (State.reset.ctl.placeNotice .recorder
        (noticeFrame (.recSilent 0x0042 .punchIn (some .bc1) (some 1)))) := by
  decide +kernel

/-! ## Words and bodies on the wire -/

theorem witness_LabelsAndCountsCorrespond :
    labelValid .r30df 0 1 0 2 = true ∧ labelValid .r30df 0 1 0 1 = false ∧ countOfLabel .r30df 0 1 0 2 = 1800 ∧
    countOfLabel .r30df 23 59 59 29 = 2589407 ∧ 2589407 < StageRate.r30df.perDay ∧
    labelOfCount .r30df 1800 = ⟨0, 1, 0, 2⟩ ∧ labelOfCount .r30df 2589407 = ⟨23, 59, 59, 29⟩ ∧
    labelValid .r25 23 59 59 24 = true ∧ countOfLabel .r25 23 59 59 24 = 2159999 := by
  repeat' apply And.intro
  all_goals decide +kernel

/-- A cue's fields at the ends of their ranges (R39). -/
def fieldsAtEnds : CueFields :=
  { id := 65535, inPos := 2073599, outPos := 0, character := 63, tracks := [32, 1, 2, 3, 4, 5], streamer := some 240,
    beep := some ⟨4, 60, 59⟩, guide := some .full, scriptRef := some 4294967295 }

theorem witness_RequestBodiesReadBack :
    fieldsAtEnds.id ≤ 65535 ∧ fieldsAtEnds.inPos < StageRate.r24.perDay ∧ fieldsAtEnds.tracks.Nodup ∧
    fieldsAtEnds.tracks.length ≤ 6 ∧ (∀ t ∈ fieldsAtEnds.tracks, 1 ≤ t ∧ t ≤ 32) ∧
    readCuePut .r24 (cueFieldBytes fieldsAtEnds) = .ok fieldsAtEnds ∧
    readReelDefine .r24 (reelBytes ⟨12, 2073550, 1, [0x20, 0x7E, 1 + 0x20, 0x41, 0x41, 0x41, 0x41, 0x41]⟩) =
      .ok ⟨12, 2073550, 1, [0x20, 0x7E, 0x21, 0x41, 0x41, 0x41, 0x41, 0x41]⟩ ∧
    readStageSet (stageBytes stageAt25) = .ok stageAt25 ∧
    readBoothSet (4 :: settingsBytes boothAtEnds) = .ok (.bc4, boothAtEnds) ∧
    readNoticeSet [ClassSet.all.byte] = .ok ClassSet.all := by
  repeat' apply And.intro
  all_goals first | exact valueOf_gives_ok (by decide +kernel) | decide +kernel

/-! ## Invariants -/

theorem witness_invariants_at_reset :
    Settled State.reset ∧ ChaseSound State.reset ∧ LineTimersSound State.reset ∧ ReelMapSound State.reset ∧
    CueTableSound State.reset ∧ SpansSound State.reset ∧ SerialsSound State.reset ∧ TakeFieldsSound State.reset ∧
    LinkListsSound State.reset := by
  refine ⟨by decide +kernel, by decide +kernel, fun b => by cases b <;> decide, by decide +kernel, by decide +kernel,
    by decide +kernel, by decide +kernel, by decide +kernel, by decide +kernel⟩

theorem witness_QueueSound : QueueSound State.reset := ⟨by decide, fun _ h => by cases h⟩

theorem witness_WindowsSound : WindowsSound State.reset := by
  intro b
  cases b <;> decide +kernel

theorem witness_SpansAgree : SpansAgree State.reset :=
  ⟨fun x h => (by cases h), fun t h => (by cases h), by decide⟩

theorem witness_RunsKeepLanesTakesAndLampsSound : RunSound State.reset := by
  refine ⟨by decide, fun b => ⟨fun t h => (by cases h), fun t h => (by cases h), fun ts _ h => ?_, ?_⟩⟩
  · cases ts with
    | nil => decide
    | cons t rest => exact absurd (h t List.mem_cons_self).1 List.not_mem_nil
  · cases b <;> decide +kernel

/-- The part after power-on with a command waiting. -/
def pendingOne (i : Instr) (s : State) : State := { s with pending := [i] }

theorem witness_ListsAndQueuesStayBounded :
    Settled (pendingOne .beginSend (readyLink [] [orderOf (.punchIn 5 1988) 1] [])) ∧
    LinkListsSound (pendingOne .beginSend (readyLink [] [orderOf (.punchIn 5 1988) 1] [])) ∧
    ((nextOf (step (pendingOne .beginSend (readyLink [] [orderOf (.punchIn 5 1988) 1] [])))).map
      (fun t => decide (Settled t ∧ LinkListsSound t))) = some true := by
  repeat' apply And.intro
  all_goals decide +kernel

theorem witness_ListsAndQueuesStayBounded_windows :
    (∀ b ∈ allBooths, ((rolling .rolling .opened).booth b).window.length ≤ 2) ∧
    (∀ e ∈ ((rolling .rolling .opened).booth .bc1).window,
      e.cueId ∈ passCues ((rolling .rolling .opened).booth .bc1).active) ∧
    ((nextOf (step (pendingOne (.passStop 7 [1]) (rolling .rolling .opened)))).map
      (fun t => ((t.booth .bc1).state, (t.booth .bc1).window.map (·.cueId)))) = some (.stopping, [10]) := by
  repeat' apply And.intro
  all_goals decide +kernel

theorem witness_ChaseAndLineTimersStaySound :
    (ChaseSound (pendingOne (.positionWord playWord) State.reset) ∧
      LineTimersSound (pendingOne (.positionWord playWord) State.reset)) ∧
    ((nextOf (step (pendingOne (.positionWord playWord) State.reset))).map (·.lines.q1.timer)) = some .stopped := by
  refine ⟨⟨by decide +kernel, fun b => by cases b <;> decide⟩, by decide +kernel⟩

theorem witness_TablesStaySound :
    ReelMapSound (pendingOne (.cuePut 7 (putBody 9 5000 6000)) stocked) ∧
    CueTableSound (pendingOne (.cuePut 7 (putBody 9 5000 6000)) stocked) ∧
    ((nextOf (step (pendingOne (.cuePut 7 (putBody 9 5000 6000)) stocked))).map (·.cues.length)) = some 3 := by
  repeat' apply And.intro
  all_goals decide +kernel

theorem witness_OccupiedSpansStayDisjoint :
    SpansSound (pendingOne (.takeDrop 7 [0, 0, 0, 1]) (logged (takeIn .kept))) ∧
    (∀ x ∈ (logged (takeIn .kept)).spans, ∃ t ∈ (logged (takeIn .kept)).log.records,
      t.serial = x.serial ∧ t.track = x.track ∧ t.plannedStart = x.start ∧ t.spanEnd = some x.stop) ∧
    ((nextOf (step (pendingOne (.takeDrop 7 [0, 0, 0, 1]) (logged (takeIn .kept))))).map (·.spans)) = some [] := by
  repeat' apply And.intro
  all_goals decide +kernel

theorem witness_TakeRecordsStaySound :
    SerialsSound (pendingOne (.takeDrop 7 [0, 0, 0, 1]) (logged (takeIn .kept))) ∧
    TakeFieldsSound (pendingOne (.takeDrop 7 [0, 0, 0, 1]) (logged (takeIn .kept))) ∧
    ((nextOf (step (pendingOne (.takeDrop 7 [0, 0, 0, 1]) (logged (takeIn .kept))))).map
      (·.log.records.map (·.state))) = some [.dropped] := by
  repeat' apply And.intro
  all_goals decide +kernel

end Sys2Proof.Tests
end

section
/-! PROOFS. The cue requests: how a cue is found in a sound cue table, how a request that only reads is answered, and the
statement about CUE-GET (R50). -/

namespace Sys2Proof.Machine

/-! ## Looking a cue up (R39, R40) -/

/-- The lookup fails exactly where no record with the id is held. -/
theorem findCue_eq_none_iff {id : Nat} {s : State} : findCue id s = none ↔ ∀ c ∈ s.cues, c.fields.id ≠ id := by
  simp only [findCue, List.find?_eq_none, decide_eq_true_eq, ne_eq]

/-- A cue that the lookup gives is held, under the id asked for. -/
theorem mem_of_findCue_eq_some {id : Nat} {s : State} {c : Cue} (h : findCue id s = some c) :
    c ∈ s.cues ∧ c.fields.id = id := by
  rw [findCue] at h
  have hid := List.find?_some h
  exact ⟨List.mem_of_find?_eq_some h, of_decide_eq_true hid⟩

/-- A sound cue table holds one record for each id: ascending ids are distinct. -/
theorem CueTableSound.eq_of_id_eq {s : State} (hs : CueTableSound s) {c d : Cue} (hc : c ∈ s.cues) (hd : d ∈ s.cues)
    (h : c.fields.id = d.fields.id) : c = d := by
  obtain ⟨_, ascending⟩ := hs
  obtain ⟨i, hi, rfl⟩ := List.getElem_of_mem hc
  obtain ⟨j, hj, rfl⟩ := List.getElem_of_mem hd
  have below := List.pairwise_iff_getElem.mp ascending
  rcases Nat.lt_trichotomy i j with hij | rfl | hji
  · exact absurd h (Nat.ne_of_lt (below i j hi hj hij))
  · rfl
  · exact absurd h.symm (Nat.ne_of_lt (below j i hj hi hji))

/-- In a sound cue table the lookup gives a held cue by its id. -/
theorem CueTableSound.findCue_of_mem {s : State} (hs : CueTableSound s) {held : Cue} (hm : held ∈ s.cues) :
    findCue held.fields.id s = some held := by
  cases hf : findCue held.fields.id s with
  | none => exact absurd rfl (findCue_eq_none_iff.mp hf held hm)
  | some c =>
    obtain ⟨hc, hid⟩ := mem_of_findCue_eq_some hf
    rw [hs.eq_of_id_eq hc hm hid]

/-! ## Requests that only read (R177, R178, R180) -/

/-- A request that is read, and whose owner answers with the state as it found it: the reply is placed and nothing else
changes. -/
theorem takeRequest_answered {α : Type} {kind : Byte} {tag : Tag} {read : Read α} {x : α} {owner : α → Handler}
    {s : State} {r : Reply} (hc : CanReply s) (hx : read = .ok x)
    (ho : owner x (frameFound s) = (frameFound s, r)) (hr : (replyFrame kind tag r).isRestartOk = false) :
    takeRequest kind tag (onRead read owner) s = replied kind tag r s := by
  subst hx
  have ⟨_, _, posted, outstanding⟩ := hc
  calc takeRequest kind tag (owner x) s
    _ = replied kind tag r (frameFound s) := takeRequest_replied hc ho posted rfl outstanding hr
    _ = replied kind tag r s := rfl

/-! ## CUE-GET (R50) -/

theorem getCue_of_findCue_none {id : Nat} {s : State} (h : findCue id s = none) :
    getCue id s = (s, .refused .noSuchCue) := by
  simp only [getCue, h]

theorem getCue_of_findCue_some {id : Nat} {s : State} {held : Cue} (h : findCue id s = some held) :
    getCue id s = (s, .cue held) := by
  simp only [getCue, h]

/-- CUE-GET of a readable id is answered by the lookup: a reply of kind 89h is never the OK of RESTART. -/
theorem exec_cueGet_answered {tag : Tag} {body : List Byte} {id : Nat} {s : State} {r : Reply} (hc : CanReply s)
    (hb : readCueId body = .ok id) (ho : getCue id (frameFound s) = (frameFound s, r)) :
    exec (.cueGet tag body) s = .next (replied 0x09 tag r s) :=
  congrArg Host.Outcome.next (takeRequest_answered hc hb ho rfl)

/-- Settles O27: the lookup in the table fails where no record has the id, and gives the one record that has it. -/
theorem cueGetReportsTheWholeRecord : Obligations.CueGetReportsTheWholeRecord := by
  intro tag body id s hc sound hb
  refine ⟨fun unheld => ?_, fun held hm hid => ⟨?_, rfl⟩⟩
  · have notFound : findCue id (frameFound s) = none := findCue_eq_none_iff.mpr unheld
    exact exec_cueGet_answered hc hb (getCue_of_findCue_none notFound)
  · have found : findCue id (frameFound s) = some held := hid ▸ sound.findCue_of_mem hm
    exact exec_cueGet_answered hc hb (getCue_of_findCue_some found)

end Sys2Proof.Machine
end

section
/-! PROOFS. The pass requests: what keeps the outstanding starts, how a request is answered that changes passes and marks
and posts nothing, and the statement about PASS-DISCARD (R74). -/

namespace Sys2Proof.Machine

/-! ## Outstanding starts under a change of passes (R160) -/

/-- Of the booths, whether an outstanding start still may call for a stop asks for the windows alone. -/
theorem stillOutstanding_congr_window {s t : State} (records : t.log.records = s.log.records)
    (windows : ∀ b, (t.booth b).window = (s.booth b).window) (stopLane : t.link.stopLane = s.link.stopLane)
    (o : Outstanding) : stillOutstanding t o = stillOutstanding s o := by
  cases o with
  | punchIn b serial => simp only [stillOutstanding, takeIsLive, takeStateOf, findTake, records, stopLane]
  | play b cue tag => simp only [stillOutstanding, windows, stopLane]

/-- A change that posts nothing and keeps the link, the take records and the windows leaves the part settled. -/
theorem Settled.of_windows_eq {s t : State} (h : Settled s) (posted : t.posted = s.posted) (link : t.link = s.link)
    (records : t.log.records = s.log.records) (windows : ∀ b, (t.booth b).window = (s.booth b).window) : Settled t := by
  obtain ⟨noPosts, outstanding⟩ := h
  refine ⟨posted.trans noPosts, fun o ho => ?_⟩
  rw [stillOutstanding_congr_window records windows (by rw [link]) o]
  exact outstanding o (link ▸ ho)

/-- A booth changed in anything but its window keeps every window. -/
theorem modBooth_window {f : Booth → Booth} (h : ∀ v, (f v).window = v.window) (b c : BoothId) (s : State) :
    ((modBooth b f s).booth c).window = (s.booth c).window := by
  by_cases e : c = b
  · rw [e, modBooth_same, h]
  · rw [modBooth_other b c f s e]

/-! ## Requests that change the part and post nothing (R177, R178, R180) -/

/-- A request that is read, and whose owner leaves a settled part and the link controller alone: the reply is placed on
what the owner made of the part. -/
theorem takeRequest_effected {α : Type} {kind : Byte} {tag : Tag} {read : Read α} {x : α} {owner : α → Handler}
    {s t : State} {r : Reply} (hc : CanReply s) (hx : read = .ok x)
    (ho : owner x (frameFound s) = (frameFound t, r)) (ctl : t.ctl = s.ctl) (settled : Settled t)
    (hr : (replyFrame kind tag r).isRestartOk = false) :
    takeRequest kind tag (onRead read owner) s = replied kind tag r t := by
  subst hx
  have ⟨posted, outstanding⟩ : Settled (frameFound t) := settled.of_windows_eq rfl rfl rfl fun _ => rfl
  have ctlFound : (frameFound t).ctl = (frameFound s).ctl := by rw [frameFound_ctl, frameFound_ctl, ctl]
  calc takeRequest kind tag (owner x) s
    _ = replied kind tag r (frameFound t) := takeRequest_replied hc ho posted ctlFound outstanding hr
    _ = replied kind tag r t := rfl

/-- The body that carries a booth's number is read as that booth (R195). -/
@[simp] theorem readBooth_boothNumber (b : BoothId) : readBooth [byteOf (boothNumber b)] = .ok b := by
  cases b <;> rfl

/-! ## Marks (R53) -/

theorem clearStaged_of_unmarked {b : BoothId} {c : Cue} (h : c.mark = none) : c.clearStaged b = c := by
  simp only [Cue.clearStaged, h]

theorem clearStaged_of_other {b : BoothId} {c : Cue} {m : Mark} (h : c.mark = some m) (hb : m.booth ≠ b) :
    c.clearStaged b = c := by
  simp only [Cue.clearStaged, h, if_neg hb]

/-- A mark of the booth keeps its active flag alone, and is none without it. -/
theorem clearStaged_of_own {b : BoothId} {c : Cue} {m : Mark} (h : c.mark = some m) (hb : m.booth = b) :
    c.clearStaged b = { c with mark := if m.active then some ⟨b, true, false⟩ else none } := by
  simp only [Cue.clearStaged, h, if_pos hb]
  cases m.active <;> rfl

theorem modCues_cues (ids : List Nat) (f : Cue → Cue) (s : State) :
    (modCues ids f s).cues = s.cues.map fun c => if c.fields.id ∈ ids then f c else c := by
  simp only [modCues, List.contains_iff_mem]

/-! ## PASS-DISCARD (R74) -/

theorem discard_reply (b : BoothId) (s : State) :
    (discard b s).2 = .entryCount (passCues (s.booth b).staged).length := rfl

/-- A discard changes the marks of the staged pass's cues, the staged pass and the pending flag. -/
theorem discard_state (b : BoothId) (s : State) :
    (discard b s).1 =
      { s with
        cues := s.cues.map fun c => if c.fields.id ∈ passCues (s.booth b).staged then c.clearStaged b else c
        booths := s.booths.set b { s.booth b with staged := none, cutPending := false } } := by
  rw [← modCues_cues]
  rfl

theorem discard_window (b c : BoothId) (s : State) : ((discard b s).1.booth c).window = (s.booth c).window :=
  modBooth_window (f := fun v => { v with staged := none, cutPending := false }) (fun _ => rfl) b c
    (modCues (passCues (s.booth b).staged) (Cue.clearStaged b) s)

theorem discard_settled (b : BoothId) {s : State} (h : Settled s) : Settled (discard b s).1 :=
  h.of_windows_eq rfl rfl rfl fun c => discard_window b c s

/-- PASS-DISCARD is answered by the discard, which asks for no booth state: a reply of kind 8Eh is never the OK of
RESTART. -/
theorem exec_passDiscard_answered {tag : Tag} {b : BoothId} {s : State} (hc : CanReply s) :
    exec (.passDiscard tag [byteOf (boothNumber b)]) s =
      .next (replied 0x0E tag (discard b s).2 (discard b s).1) := by
  have ⟨_, _, settled⟩ := hc
  exact congrArg Host.Outcome.next
    (takeRequest_effected hc (readBooth_boothNumber b) rfl rfl (discard_settled b settled) rfl)

/-- Settles O38: the discard is taken in every booth state, and clears a mark by whether it is one of the booth. -/
theorem passDiscardEmptiesTheStagedPass : Obligations.PassDiscardEmptiesTheStagedPass := by
  intro tag b s hc
  rw [exec_passDiscard_answered hc, discard_reply, discard_state]
  congr 3
  refine List.map_congr_left fun c _ => ite_congr rfl (fun _ => ?_) fun _ => rfl
  cases hm : c.mark with
  | none => exact clearStaged_of_unmarked hm
  | some m =>
    by_cases hb : m.booth = b
    · exact (clearStaged_of_own hm hb).trans (if_pos hb).symm
    · exact (clearStaged_of_other hm hb).trans (if_neg hb).symm

end Sys2Proof.Machine
end

section
/-! PROOFS. The requests on the take log's cursor: which record stands under the cursor of a log in ascending serial, how
a request is answered that a generic check refuses, and the statements about LOG-SEEK and LOG-READ (R136 to R138). -/

namespace Sys2Proof.Machine

/-! ## Numbers as bytes, and back (R190) -/

theorem length_beBytes (k v : Nat) : (beBytes k v).length = k := by
  induction k with
  | zero => rfl
  | succ k ih => exact congrArg (· + 1) ih

/-- Reading bytes on from a number `a` shifts it up by their count: the form of `beNat_beBytes` that induction needs. -/
theorem foldl_beBytes (k v a : Nat) :
    (beBytes k v).foldl (fun n b => n * 256 + b.toNat) a = a * 256 ^ k + v % 256 ^ k := by
  induction k generalizing a with
  | zero => simp only [beBytes, List.foldl_nil, Nat.pow_zero, Nat.mul_one, Nat.mod_one, Nat.add_zero]
  | succ k ih =>
    have topDigit : (BitVec.ofNat 8 (v / 256 ^ k)).toNat = v / 256 ^ k % 256 := BitVec.toNat_ofNat _ _
    calc (beBytes (k + 1) v).foldl (fun n b => n * 256 + b.toNat) a
      _ = (a * 256 + v / 256 ^ k % 256) * 256 ^ k + v % 256 ^ k := by rw [beBytes, List.foldl_cons, ih, topDigit]
      _ = a * 256 ^ (k + 1) + (v % 256 ^ k + 256 ^ k * (v / 256 ^ k % 256)) := by
        rw [Nat.add_mul, Nat.mul_assoc, ← Nat.pow_succ', Nat.mul_comm (v / 256 ^ k % 256), Nat.add_assoc,
          Nat.add_comm (v % 256 ^ k)]
      _ = a * 256 ^ (k + 1) + v % 256 ^ (k + 1) := by rw [Nat.mod_pow_succ]

/-- The bytes of a number that fits in them are read back as that number. -/
theorem beNat_beBytes {k v : Nat} (h : v < 256 ^ k) : beNat (beBytes k v) = v := by
  rw [beNat, foldl_beBytes, Nat.zero_mul, Nat.zero_add, Nat.mod_eq_of_lt h]

/-! ## The record under the cursor (R136) -/

theorem mem_aheadOf {l : TakeLog} {t : Take} : t ∈ aheadOf l ↔ t ∈ l.records ∧ l.bound ≤ t.serial := by
  simp only [aheadOf, List.mem_filter, decide_eq_true_eq]

theorem underCursor_eq_none_iff {l : TakeLog} : underCursor l = none ↔ ∀ t ∈ l.records, t.serial < l.bound := by
  simp only [underCursor, aheadOf, Option.map_eq_none_iff, List.head?_eq_none_iff, List.filter_eq_nil_iff,
    decide_eq_true_eq, Nat.not_le]

/-- A serial is the least one held at or above the log's bound: that of the record R136 puts under the cursor. -/
def LeastAhead (l : TakeLog) (n : Nat) : Prop :=
  l.bound ≤ n ∧ (∃ t ∈ l.records, t.serial = n) ∧ ∀ t ∈ l.records, l.bound ≤ t.serial → n ≤ t.serial

theorem LeastAhead.unique {l : TakeLog} {m n : Nat} (hm : LeastAhead l m) (hn : LeastAhead l n) : m = n := by
  obtain ⟨aboveM, ⟨t, ht, rfl⟩, leastM⟩ := hm
  obtain ⟨aboveN, ⟨u, hu, rfl⟩, leastN⟩ := hn
  exact Nat.le_antisymm (leastM u hu aboveN) (leastN t ht aboveM)

/-- With serials in ascending order, the first record ahead has the least serial. -/
theorem leastAhead_of_underCursor {l : TakeLog} (ascending : Ascending Take.serial l.records) {m : Nat}
    (h : underCursor l = some m) : LeastAhead l m := by
  have sorted : Ascending Take.serial (aheadOf l) := ascending.filter _
  obtain ⟨t, first, rfl⟩ := Option.map_eq_some_iff.mp h
  obtain ⟨rest, ahead⟩ := List.head?_eq_some_iff.mp first
  rw [ahead] at sorted
  obtain ⟨held, atOrAbove⟩ := mem_aheadOf.mp (ahead ▸ List.mem_cons_self : t ∈ aheadOf l)
  refine ⟨atOrAbove, ⟨t, held, rfl⟩, fun x hx above => ?_⟩
  rcases List.mem_cons.mp (ahead ▸ mem_aheadOf.mpr ⟨hx, above⟩) with rfl | later
  · exact Nat.le_refl _
  · exact Nat.le_of_lt (List.rel_of_pairwise_cons sorted later)

theorem underCursor_eq_some_iff {l : TakeLog} (ascending : Ascending Take.serial l.records) {m : Nat} :
    underCursor l = some m ↔ LeastAhead l m := by
  refine ⟨leastAhead_of_underCursor ascending, fun least => ?_⟩
  cases hu : underCursor l with
  | none =>
    obtain ⟨above, ⟨t, held, rfl⟩, _⟩ := least
    exact absurd (underCursor_eq_none_iff.mp hu t held) (Nat.not_lt.mpr above)
  | some n => rw [(leastAhead_of_underCursor ascending hu).unique least]

/-- A bound of 1 puts the cursor on the oldest record: no serial is below 1 (R128). -/
theorem SerialsSound.underCursor_of_bound_one {s : State} (sound : SerialsSound s) :
    underCursor { s.log with bound := 1 } = s.log.records.head?.map (·.serial) := by
  obtain ⟨_, _, range⟩ := sound
  have all : aheadOf { s.log with bound := 1 } = s.log.records :=
    List.filter_eq_self.mpr fun t ht => decide_eq_true (range t ht).1
  rw [underCursor, all]

/-- A bound at a held record's serial puts the cursor on that record. -/
theorem SerialsSound.underCursor_of_mem {s : State} (sound : SerialsSound s) {t : Take} (held : t ∈ s.log.records) :
    underCursor { s.log with bound := t.serial } = some t.serial := by
  obtain ⟨ascending, _, _⟩ := sound
  refine (underCursor_eq_some_iff (l := { s.log with bound := t.serial }) ascending).mpr ?_
  exact ⟨Nat.le_refl _, ⟨t, held, rfl⟩, fun _ _ above => above⟩

/-- A bound at the newest serial puts the cursor on the newest record; at the counter of an empty log, at end. -/
theorem SerialsSound.underCursor_of_newest {s : State} (sound : SerialsSound s) :
    underCursor { s.log with bound := seekBound .newest s.log } = s.log.records.getLast?.map (·.serial) := by
  cases newest : s.log.records.getLast? with
  | none =>
    have empty : s.log.records = [] := List.getLast?_eq_none_iff.mp newest
    refine underCursor_eq_none_iff.mpr fun t ht => ?_
    exact absurd ht (empty ▸ List.not_mem_nil)
  | some t =>
    have bound : seekBound .newest s.log = t.serial := by rw [seekBound, newest]; rfl
    rw [bound]
    exact sound.underCursor_of_mem (List.mem_of_getLast? newest)

/-! ## Requests that a generic check refuses (R178) -/

/-- A request that is not read: its code is the reply, and nothing else changes, whatever the owner would do. -/
theorem takeRequest_unread {α : Type} {kind : Byte} {tag : Tag} {read : Read α} {code : ResultCode}
    {owner : α → Handler} {s : State} (hc : CanReply s) (hx : read = .error code) :
    takeRequest kind tag (onRead read owner) s = replied kind tag (.refused code) s := by
  subst hx
  have ⟨_, _, posted, outstanding⟩ := hc
  have notRestart : (replyFrame kind tag (.refused code)).isRestartOk = false := by
    simp only [OutFrame.isRestartOk, replyFrame, reduceCtorEq, FrameBody.reply.injEq, decide_false, Bool.and_false]
  calc takeRequest kind tag (onRead (.error code) owner) s
    _ = replied kind tag (.refused code) (frameFound s) :=
        takeRequest_replied hc rfl posted rfl outstanding notRestart
    _ = replied kind tag (.refused code) s := rfl

/-! ## LOG-SEEK (R137) -/

/-- The body that carries a serial of 1 to 4,294,967,295 is read as that serial (R137, R195). -/
theorem readLogSeek_serial {n : Nat} (low : 1 ≤ n) (high : n ≤ 4294967295) :
    readLogSeek (2 :: beBytes 4 n) = .ok (.serial n) := by
  have length : (2 :: beBytes 4 n).length = 5 := congrArg (· + 1) (length_beBytes 4 n)
  have target : field (2 :: beBytes 4 n) 0 1 = 2 := rfl
  have serial : field (2 :: beBytes 4 n) 1 4 = n := by
    calc field (2 :: beBytes 4 n) 1 4
      _ = beNat (beBytes 4 n) := rfl
      _ = n := beNat_beBytes (k := 4) (Nat.lt_succ_of_le high)
  simp only [readLogSeek, readFixed, length, target, serial, valueIf, low, decide_true, if_true]

/-- A LOG-SEEK that is read sets the bound of its target and answers the serial then under the cursor: a reply of kind
97h is never the OK of RESTART. -/
theorem takeRequest_logSeek {tag : Tag} {body : List Byte} {target : SeekTarget} {s : State} (hc : CanReply s)
    (hb : readLogSeek body = .ok target) :
    takeRequest 0x17 tag (handleLogSeek body) s =
      replied 0x17 tag (.seek (underCursor { s.log with bound := seekBound target s.log }))
        { s with log := { s.log with bound := seekBound target s.log } } := by
  have ⟨_, _, settled⟩ := hc
  exact takeRequest_effected hc hb rfl rfl (settled.of_windows_eq rfl rfl rfl fun _ => rfl) rfl

/-- Settles O31: each target's bound is met with what it puts under the cursor. -/
theorem logSeekSetsTheBound : Obligations.LogSeekSetsTheBound := by
  intro tag s hc sound
  refine ⟨⟨_, congrArg Host.Outcome.next (takeRequest_logSeek hc (target := .oldest) rfl), ?_⟩,
    ⟨_, congrArg Host.Outcome.next (takeRequest_logSeek hc (target := .newest) rfl), ?_⟩,
    fun n low high =>
      ⟨_, congrArg Host.Outcome.next (takeRequest_logSeek hc (readLogSeek_serial low high)), ?_, ?_⟩,
    congrArg Host.Outcome.next (takeRequest_unread hc rfl)⟩
  · exact sound.underCursor_of_bound_one
  · exact sound.underCursor_of_newest
  · exact underCursor_eq_none_iff.mp
  · intro m hm
    obtain ⟨ascending, _, _⟩ := sound
    exact leastAhead_of_underCursor (l := { s.log with bound := n }) ascending hm

/-! ## LOG-READ (R138) -/

/-- A body of one byte is read as its count from 1 to 8, and is BAD_VALUE otherwise (R138). -/
theorem readLogCount_byte (count : Byte) :
    readLogCount [count] =
      if 1 ≤ count.toNat ∧ count.toNat ≤ 8 then .ok count.toNat else .error .badValue := by
  have value : field [count] 0 1 = count.toNat := Nat.zero_add _
  simp only [readLogCount, readFixed, valueIf, value, List.length_singleton, if_true, ← Bool.decide_and,
    decide_eq_true_eq]
  by_cases inRange : 1 ≤ count.toNat ∧ count.toNat ≤ 8
  · rw [if_pos inRange, if_pos inRange]
  · rw [if_neg inRange, if_neg inRange]

/-- A LOG-READ that is read gives the first records ahead and moves the bound behind the last of them: a reply of kind
98h is never the OK of RESTART. -/
theorem takeRequest_logRead {tag : Tag} {body : List Byte} {count : Nat} {s : State} (hc : CanReply s)
    (hb : readLogCount body = .ok count) :
    takeRequest 0x18 tag (handleLogRead body) s =
      replied 0x18 tag
        (.log ((aheadOf s.log).take count) (decide ((aheadOf s.log).length ≤ count))
          (s.log.records.head?.map (·.serial)))
        { s with log := { s.log with
            bound := (((aheadOf s.log).take count).getLast?.map (·.serial + 1)).getD s.log.bound } } := by
  have ⟨_, _, settled⟩ := hc
  exact takeRequest_effected hc hb rfl rfl (settled.of_windows_eq rfl rfl rfl fun _ => rfl) rfl

/-- Settles O32: the records ahead split at the count into those given and those left for a later read; the end flag
says that none are left. -/
theorem logReadWalksTheLog : Obligations.LogReadWalksTheLog := by
  intro tag count s hc _
  have counted := readLogCount_byte count
  refine ⟨fun outside => ?_, fun low high => ?_⟩
  · rw [if_neg (by omega)] at counted
    exact congrArg Host.Outcome.next (takeRequest_unread hc counted)
  · rw [if_pos ⟨low, high⟩] at counted
    have atEnd : (aheadOf s.log).drop count.toNat = [] ↔ (aheadOf s.log).length ≤ count.toNat :=
      List.drop_eq_nil_iff
    refine ⟨(aheadOf s.log).take count.toNat, (aheadOf s.log).drop count.toNat, List.take_append_drop _ _,
      List.length_take_le _ _, fun left => ?_, ?_⟩
    · exact List.length_take_of_le (Nat.le_of_not_le fun short => left (atEnd.mpr short))
    · rw [decide_eq_decide.mpr atEnd]
      exact congrArg Host.Outcome.next (takeRequest_logRead hc counted)

end Sys2Proof.Machine
end
